-- ==== Sys2Proof/Word.lean ====
section
/-! DEFINITION. The word types of the block: a 16-bit operation word (spec R71) and a 16-bit register value (R55). -/

namespace Sys2Proof

/-- An operation word `w[15:0]` (R71), and the value of one register of the register space (R55). -/
abbrev Word := BitVec 16

/-- A 5-bit register address, the field A of H_READ (R54). -/
abbrev RegAddr := BitVec 5

/-- A 3-bit pattern: LP, ACC or DACC (R29, R30). -/
abbrev Pattern := BitVec 3

end Sys2Proof
end

