-- ==== Sys2Proof/Config.lean ====
section
/-! DEFINITION. The implementation parameters of 00_scope.md R11, the sensor table of 10_state.md R26, the
quadrature table of R88 and the launch parameters of R22 and R36, with the defaults of 93_implementation_defined.md
section 3. No rule of the spec leaves a result undefined, so there is no free value here. -/

namespace Sys2Proof.Config

/-- READINGS_MAX, samples per sensor per round (R11). -/
def readingsMax : BitVec 2 := 2

/-- CUTOFF, the binarisation cutoff (R11, R102). -/
def cutoff : BitVec 12 := 3500

/-- FAULT_THRESH: a counter trips when it is above this (R11, R34). -/
def faultThresh : BitVec 8 := 10

/-- The largest value of a fault counter, `2^CNT_W - 1` with CNT_W = 8 (R11, R33). -/
def counterMax : Nat := 255

/-- A sensor number, 0, 1 or 2 (N_SENSORS = 3, R11). -/
abbrev SensorId := Fin 3

/-- One record of the sensor table (R26): the channel selector CH, the line-pattern bit LBIT, the display-pattern bit
DBIT and the ring successor SUCC. OFS is derived (`Params.ofs`). -/
structure Sensor where
  ch   : BitVec 4
  lbit : Fin 3
  dbit : Fin 3
  succ : SensorId
  deriving DecidableEq, Repr

/-- QED_HIST_RESET: what HIST holds at reset (R11, R48). -/
inductive HistReset where
  | sampled
  | zero
  deriving DecidableEq, Repr

/-- TOGGLE_ON: which confirmed edges invert the go latch (R11, R113). PRESS_LEVEL is an argument of PRESS_ONLY, because
it has no default and is used only there (R11; 93 section 3). -/
inductive ToggleOn where
  | both
  | pressOnly (pressLevel : Bool)
  deriving DecidableEq, Repr

/-- What a model takes as an argument (R11 "param", R50): every parameter and both launch parameters. -/
structure Params where
  /-- QTAB, the signed increment of each 4-bit history (R88). -/
  qtab        : Vector Int 16
  /-- The sensor ring (R26). -/
  sensors     : Vector Sensor 3
  /-- HEAD, the first sensor of the ring (R26). -/
  head        : SensorId
  histReset   : HistReset
  toggleOn    : ToggleOn
  /-- CTRL_GATED: the control period acts only while the go latch runs (R11, R123). -/
  ctrlGated   : Bool
  /-- LINES_AT_RESET[0] and LINES_AT_RESET[1] (R22). -/
  lines0AtReset : BitVec 2
  lines1AtReset : BitVec 2
  /-- BTN_AT_RESET (R36). -/
  btnAtReset  : Bool
  deriving DecidableEq, Repr

/-- QTAB as R88 lists it in index order. -/
def qtabDefault : Vector Int 16 :=
  #v[0, 1, -1, 0, -1, 0, 0, 1, 1, 0, 0, -1, 0, -1, 1, 0]

/-- The sensor table of R26: CH = (0, 1, 2), LBIT = (0, 1, 2), DBIT = (2, 1, 0), SUCC = (1, 2, 0). -/
def sensorsDefault : Vector Sensor 3 :=
  #v[⟨0, 0, 2, 1⟩, ⟨1, 1, 1, 2⟩, ⟨2, 2, 0, 0⟩]

/-- Every parameter at its default (R11; 93 section 3): what every vector of 95_test_vectors.md uses. -/
def Params.default : Params where
  qtab := qtabDefault
  sensors := sensorsDefault
  head := 0
  histReset := .sampled
  toggleOn := .both
  ctrlGated := true
  lines0AtReset := 0
  lines1AtReset := 0
  btnAtReset := false

end Sys2Proof.Config
end

