-- ==== Sys2Proof/Syntax.lean ====
section
/-! DEFINITION. The syntax: one constructor per row of spec/opcode_table.json (30_encoding.md R82), the seven sources
(10_state.md R44) and who applies what (R9, R71). -/

namespace Sys2Proof

/-- The seven interrupt sources (R44). -/
inductive Source where
  | disp | btn | adc | qed | dbt | ctrl | obs
  deriving DecidableEq, Repr

/-- The two priority levels (R149). -/
inductive Level where
  | high | low
  deriving DecidableEq, Repr

/-- The operations of the block: fifteen words and seven services, one constructor per row of the opcode table (R82).
Operands are those of R81, each of its own width. -/
inductive Instr where
  /-- ENC: encoder `e`, new level `a` of line A and `b` of line B (R73, R87). -/
  | enc (e : Fin 2) (a b : Bool)
  /-- BTN: new button line level `l` (R74, R109). -/
  | btn (l : Bool)
  /-- ADC: conversion result `v` (R75, R96). -/
  | adc (v : BitVec 12)
  /-- TICK_OBS (R76, R132). -/
  | tickObs
  /-- TICK_CTRL (R76, R120). -/
  | tickCtrl
  /-- TICK_DISP (R76, R133). -/
  | tickDisp
  /-- DBT_FIRE (R76, R110). -/
  | dbtFire
  /-- SYNC (R77, R136). -/
  | sync
  /-- H_SAMPLE (R78, R98). -/
  | hSample
  /-- H_GOEDGE (R78, R115). -/
  | hGoedge
  /-- H_RECOVER (R78, R126). -/
  | hRecover
  /-- H_SLEEP (R78, R139). -/
  | hSleep
  /-- H_REARM (R78, R104). -/
  | hRearm
  /-- H_READ: register address `a` (R79, R137). -/
  | hRead (a : RegAddr)
  /-- H_SETEN: new enable vector `m` (R80, R140). -/
  | hSeten (m : BitVec 7)
  /-- SVC_DISP, source 0 (R135). -/
  | svcDisp
  /-- SVC_BTN, source 1 (R112). -/
  | svcBtn
  /-- SVC_ADC, source 2 (R97). -/
  | svcAdc
  /-- SVC_QED, source 3 (R89). -/
  | svcQed
  /-- SVC_DBT, source 4 (R114). -/
  | svcDbt
  /-- SVC_CTRL, source 5 (R123). -/
  | svcCtrl
  /-- SVC_OBS, source 6 (R134). -/
  | svcObs
  deriving DecidableEq, Repr

/-- The three agents of R9. -/
inductive Agent where
  /-- The environment: class-E words, and the harness directive SYNC that has a class-E word (R71). -/
  | env
  /-- The dispatcher DSP: services. -/
  | dsp
  /-- The host: class-H words. -/
  | host
  deriving DecidableEq, Repr

/-- What decides when an operation is enabled (R10, R136, R150, R151). -/
inductive Role where
  /-- An environment word: enabled whenever its own precondition holds. -/
  | environment
  /-- SYNC: enabled at quiescence, asleep or not. -/
  | harness
  /-- A host word: enabled at quiescence while awake. -/
  | host
  /-- The service of a source: enabled when the dispatch rule selects that source. -/
  | service (src : Source)
  deriving DecidableEq, Repr

/-- The service each source is served by (R44, column "service"). -/
def Source.service : Source → Instr
  | .disp => .svcDisp
  | .btn => .svcBtn
  | .adc => .svcAdc
  | .qed => .svcQed
  | .dbt => .svcDbt
  | .ctrl => .svcCtrl
  | .obs => .svcObs

/-- The mnemonic of an operation's row in the opcode table (R82). -/
def Instr.mnemonic : Instr → String
  | .enc _ _ _ => "ENC"
  | .btn _ => "BTN"
  | .adc _ => "ADC"
  | .tickObs => "TICK_OBS"
  | .tickCtrl => "TICK_CTRL"
  | .tickDisp => "TICK_DISP"
  | .dbtFire => "DBT_FIRE"
  | .sync => "SYNC"
  | .hSample => "H_SAMPLE"
  | .hGoedge => "H_GOEDGE"
  | .hRecover => "H_RECOVER"
  | .hSleep => "H_SLEEP"
  | .hRearm => "H_REARM"
  | .hRead _ => "H_READ"
  | .hSeten _ => "H_SETEN"
  | .svcDisp => "SVC_DISP"
  | .svcBtn => "SVC_BTN"
  | .svcAdc => "SVC_ADC"
  | .svcQed => "SVC_QED"
  | .svcDbt => "SVC_DBT"
  | .svcCtrl => "SVC_CTRL"
  | .svcObs => "SVC_OBS"

/-- Which role an operation plays (R9; the class column of R82; format SVC for the services). -/
def Instr.role : Instr → Role
  | .enc _ _ _ => .environment
  | .btn _ => .environment
  | .adc _ => .environment
  | .tickObs => .environment
  | .tickCtrl => .environment
  | .tickDisp => .environment
  | .dbtFire => .environment
  | .sync => .harness
  | .hSample => .host
  | .hGoedge => .host
  | .hRecover => .host
  | .hSleep => .host
  | .hRearm => .host
  | .hRead _ => .host
  | .hSeten _ => .host
  | .svcDisp => .service .disp
  | .svcBtn => .service .btn
  | .svcAdc => .service .adc
  | .svcQed => .service .qed
  | .svcDbt => .service .dbt
  | .svcCtrl => .service .ctrl
  | .svcObs => .service .obs

end Sys2Proof
end

