-- ==== Sys2Proof/Machine/State.lean ====
section
/-! DEFINITION. The state of the block (10_state.md), its reset (R48, R171), and the reasons a step can stop. -/

namespace Sys2Proof.Machine

open Sys2Proof.Config

/-- DB_STATE (R37). -/
inductive DbState where
  /-- 0, no press event pending. -/
  | idle
  /-- 1, the one-shot has been armed. -/
  | debouncing
  deriving DecidableEq, Repr

/-- One encoder instance of QED (R22, R23, R24). -/
structure Encoder where
  /-- LINES[e]: bit 1 line A, bit 0 line B (R22). -/
  lines : BitVec 2
  /-- HIST[e]: previous state in bits 3:2, newest in bits 1:0 (R23). -/
  hist  : BitVec 4
  /-- COUNT[e], two's complement (R24). -/
  count : BitVec 16
  deriving DecidableEq, Repr

/-- The six latched bits of PEND. Bit 3 (QED) is derived and is not here (R41, R25). -/
structure Latches where
  disp : Bool
  btn  : Bool
  adc  : Bool
  dbt  : Bool
  ctrl : Bool
  obs  : Bool
  deriving DecidableEq, Repr

/-- The output events (R49). -/
inductive Out where
  /-- DUTY(r, l): `apply_duty(right, left)`. -/
  | duty (r l : BitVec 8)
  /-- CONV(ch): `start_conversion(sensor_channel)`. -/
  | conv (ch : BitVec 4)
  /-- DISP(p): the display pattern for `load_byte`. -/
  | disp (p : Pattern)
  /-- START: `start_delivery()`. -/
  | start
  /-- PAUSE: `pause_delivery()`. -/
  | pause
  /-- SLEEP: `enter_sleep()`. -/
  | sleep
  /-- READ(a, d): the value `d` of register `a`, to the host. -/
  | read (a : RegAddr) (d : Word)
  deriving DecidableEq, Repr

/-- Which rule takes the next step of a run: the general step relation of R10, or one of the two trace schedulers of
R141. -/
inductive Scheduler where
  | general
  | eager
  | lazy
  deriving DecidableEq, Repr

/-- The state of the block: every element of 10_state.md, then the model's own four fields (log 1, 2, 3). -/
structure State where
  /-- Encoder 0 (R22 to R24). -/
  enc0 : Encoder
  /-- Encoder 1 (R22 to R24). -/
  enc1 : Encoder
  /-- CUR, the sensor loaded into the converter (R27). -/
  cur : SensorId
  /-- NXT, the sensor to be loaded next (R27). -/
  nxt : SensorId
  /-- RC, the per-sensor reading counter (R28). -/
  rc : BitVec 2
  /-- ACC, the line-pattern accumulator (R29). -/
  acc : Pattern
  /-- LP, the published line pattern (R29). -/
  lp : Pattern
  /-- DACC, the live display pattern (R30). -/
  dacc : Pattern
  /-- SAMPLE_REG, the most recent conversion result (R31). -/
  sampleReg : BitVec 12
  /-- ADF, the sample-ready flag (R31). -/
  adf : Bool
  /-- CONV_BUSY, a conversion is in flight (R32). -/
  convBusy : Bool
  /-- CONV_CH, the channel of the last requested conversion (R32). -/
  convCh : BitVec 4
  /-- LOST, the saturating lost counter (R33). -/
  lost : BitVec 8
  /-- STOP, the saturating stop counter (R33). -/
  stop : BitVec 8
  /-- DUTY_R (R35). -/
  dutyR : BitVec 8
  /-- DUTY_L (R35). -/
  dutyL : BitVec 8
  /-- BTN_LINE, the raw button level (R36). -/
  btnLine : Bool
  /-- DB_STATE (R37). -/
  dbState : DbState
  /-- DB_DIR, the level right after the arming edge (R38). -/
  dbDir : Bool
  /-- DBT_ARMED, the one-shot is running (R39). -/
  dbtArmed : Bool
  /-- GO, the go latch: true is running (R40). -/
  go : Bool
  /-- GO_PREV, the go latch as the host's edge check last saw it (R40). -/
  goPrev : Bool
  /-- The latched bits of PEND (R41). -/
  latch : Latches
  /-- EN, one enable bit per source id (R42). -/
  en : BitVec 7
  /-- SLEEPING (R43). -/
  sleeping : Bool
  /-- The output log, oldest event first (R49). -/
  log : List Out
  /-- MODEL'S OWN (log 1): the parameters and launch parameters of R11 and R50. No step writes them. -/
  params : Params
  /-- MODEL'S OWN (log 2): the operation words not yet applied, next first (R21, R50, R141). -/
  stream : List Word
  /-- MODEL'S OWN (log 2): the rule that takes the next step. -/
  sched : Scheduler
  /-- MODEL'S OWN (log 3): under the general step relation, whose turn it is, next first (R10). -/
  turns : List Agent
  deriving DecidableEq, Repr

/-- Why the machine stops without a refusal. -/
inductive Fault where
  /-- The operation given to `exec` is not enabled in this state: a host word while the block is asleep or not
  quiescent, SYNC while it is not quiescent, or a service the dispatch rule does not select (R150, R151, R161). Raised
  by `exec` only: `step` waits instead, by taking an enabled step of another agent. Safe: nothing happens. -/
  | held
  /-- A hold that can never end, or a sleep nothing can end: no agent has an enabled step, and either the block is
  asleep or a held word remains (R161, R185; 93_implementation_defined.md section 4 "stuck"). Raised by `step`. Safe:
  the spec asks a model to report it. -/
  | stuck
  deriving DecidableEq, Repr

/-- The refusals of R159. Each leaves the state as it was and ends the run (R160). All are safe: the spec gives the
refusal itself. -/
inductive Refusal where
  /-- An operation that has no meaning yet, by its mnemonic. Raised by no arm of `exec`: every row has its meaning. -/
  | notModelled (mnemonic : String)
  /-- X1: the word is illegal. Raised when the next word does not decode (R83). -/
  | illegalWord
  /-- X2: a trace scheduler must apply a host word while the block is asleep. Raised by the schedulers EAGER and LAZY
  (R159, R161). -/
  | hostWhileAsleep
  /-- X5: a timer word or an ADC word while the block is asleep. Raised by TICK_OBS, TICK_CTRL, TICK_DISP, DBT_FIRE
  and ADC (R159). -/
  | clockHalted
  /-- X3: an ADC word with no conversion in flight. Raised by ADC (R96). -/
  | noConversion
  /-- X4: DBT_FIRE with the one-shot not armed. Raised by DBT_FIRE (R110). -/
  | notArmed
  /-- X6: a read of a reserved register address. Raised by H_READ (R56). -/
  | reservedAddress
  deriving DecidableEq, Repr

/-- An encoder at reset (R48): HIST doubles the lines (SAMPLED) or is 0b0000 (ZERO); COUNT is 0. -/
def Encoder.reset (mode : HistReset) (lines : BitVec 2) : Encoder where
  lines := lines
  hist := match mode with
    | .sampled => lines ++ lines
    | .zero => 0
  count := 0

/-- No latch set (R48). -/
def Latches.none : Latches := ⟨false, false, false, false, false, false⟩

/-- Reset with given parameters (R48, R171): nothing loaded, scheduler EAGER (log 2). -/
def State.resetWith (p : Params) : State where
  enc0 := Encoder.reset p.histReset p.lines0AtReset
  enc1 := Encoder.reset p.histReset p.lines1AtReset
  cur := p.head
  nxt := p.head
  rc := 0
  acc := 0
  lp := 0
  dacc := 0
  sampleReg := 0
  adf := false
  convBusy := false
  convCh := 0
  lost := 0
  stop := 0
  dutyR := 0
  dutyL := 0
  btnLine := p.btnAtReset
  dbState := .idle
  dbDir := false
  dbtArmed := false
  go := false
  goPrev := false
  latch := Latches.none
  en := 0
  sleeping := false
  log := []
  params := p
  stream := []
  sched := .eager
  turns := []

/-- The machine right after reset, every parameter at its default (R48, R171; 93 section 3). -/
def State.reset : State := State.resetWith Params.default

end Sys2Proof.Machine
end

