-- ==== Sys2Proof/Machine/Flags.lean ====
section
/-! DEFINITION. Every derived flag of the block: the QED change condition (R25), the pending and enable bits by source
(R41, R42), serviceable and quiescent (R148), the service order (R149, R157), the trips (R34) and the status of the
classifier (R122). -/

namespace Sys2Proof.Machine

open Sys2Proof.Config

/-- The source id, its place in PEND and EN (R44). -/
def sourceId : Source → Nat
  | .disp => 0
  | .btn => 1
  | .adc => 2
  | .qed => 3
  | .dbt => 4
  | .ctrl => 5
  | .obs => 6

/-- The level of a source (R44, R149). -/
def sourceLevel : Source → Level
  | .disp => .high
  | .btn => .high
  | .adc => .low
  | .qed => .low
  | .dbt => .low
  | .ctrl => .low
  | .obs => .low

/-- HIGH_CHAIN (R11, R149). -/
def highChain : List Source := [.disp, .btn]

/-- LOW_CHAIN (R11, R149). -/
def lowChain : List Source := [.adc, .qed, .dbt, .ctrl, .obs]

/-- The order in which serviceable sources are taken: the high chain, then the low chain (R149, R157). -/
def serviceOrder : List Source := highChain ++ lowChain

/-- The newest sampled line state, HIST[e][1:0] (R23). -/
def Encoder.newest (c : Encoder) : BitVec 2 := c.hist.extractLsb' 0 2

/-- QPEND[e], the change condition of one encoder (R25). -/
def Encoder.changed (c : Encoder) : Bool := c.lines != c.newest

/-- PEND[QED] (R25). -/
def State.qedPend (s : State) : Bool := s.enc0.changed || s.enc1.changed

/-- The latch of a source; QED has none (R41). -/
def Latches.get (l : Latches) : Source → Bool
  | .disp => l.disp
  | .btn => l.btn
  | .adc => l.adc
  | .qed => false
  | .dbt => l.dbt
  | .ctrl => l.ctrl
  | .obs => l.obs

/-- PEND[src] (R41). -/
def State.pend (s : State) : Source → Bool
  | .disp => s.latch.disp
  | .btn => s.latch.btn
  | .adc => s.latch.adc
  | .qed => s.qedPend
  | .dbt => s.latch.dbt
  | .ctrl => s.latch.ctrl
  | .obs => s.latch.obs

/-- EN[src] (R42). -/
def State.enabled (s : State) (src : Source) : Bool := s.en.getLsbD (sourceId src)

/-- A source both pending and enabled (R148, R165). -/
def State.wanted (s : State) (src : Source) : Bool := s.pend src && s.enabled src

/-- The block is quiescent: no source is both pending and enabled (R148). -/
def State.quiescent (s : State) : Bool := !(serviceOrder.any s.wanted)

/-- A source is serviceable: pending, enabled and the block awake (R148). -/
def State.serviceable (s : State) (src : Source) : Bool := s.wanted src && !s.sleeping

/-- The serviceable source that comes first in the service order (R151, R157). -/
def State.nextService (s : State) : Option Source := serviceOrder.find? s.serviceable

/-- The 7-bit vector PEND, bit `s` for source id `s` (R41, register 0x08). -/
def State.pendVector (s : State) : BitVec 7 :=
  BitVec.ofBool (s.pend .obs) ++ BitVec.ofBool (s.pend .ctrl) ++ BitVec.ofBool (s.pend .dbt)
    ++ BitVec.ofBool (s.pend .qed) ++ BitVec.ofBool (s.pend .adc) ++ BitVec.ofBool (s.pend .btn)
    ++ BitVec.ofBool (s.pend .disp)

/-- A fault counter is above FAULT_THRESH: strict, unsigned (R34). -/
def trips (counter : BitVec 8) : Bool := decide (faultThresh.toNat < counter.toNat)

/-- TRIP_LOST (R34). -/
def State.tripLost (s : State) : Bool := trips s.lost

/-- TRIP_STOP (R34). -/
def State.tripStop (s : State) : Bool := trips s.stop

/-- The status of the classifier, with the duty pair of a NORMAL status (R19, R122). -/
inductive Status where
  | normal (right left : BitVec 8)
  | lost
  | stop
  deriving DecidableEq, Repr

/-- CLASSIFY(p) (R122). -/
def classify (p : Pattern) : Status :=
  match p.toNat with
  | 0b000 => .lost
  | 0b001 => .normal 50 0
  | 0b010 => .normal 25 25
  | 0b011 => .normal 35 15
  | 0b100 => .normal 0 50
  | 0b101 => .lost
  | 0b110 => .normal 15 35
  | _ => .stop

/-- `sat_8(x + 1)` (R124). -/
def satInc (x : BitVec 8) : BitVec 8 := BitVec.ofNat 8 (min (x.toNat + 1) counterMax)

/-- DB_STATE as the bit the host reads (R37). -/
def dbStateBit : DbState → Bool
  | .idle => false
  | .debouncing => true

end Sys2Proof.Machine
end

