-- ==== Sys2Proof/Machine/Operands.lean ====
section
/-! DEFINITION. How operands are assembled and looked up: line states (R81), single bits of a pattern, QTAB (R88), the
sensor table (R26), binarisation (R102) and the register read RegRead (R56, R57). -/

namespace Sys2Proof.Machine

open Sys2Proof.Config

/-- The 2-bit line state `a ++ b`, line A in bit 1 (R22, R81). -/
def lineState (a b : Bool) : BitVec 2 := BitVec.ofBool a ++ BitVec.ofBool b

/-- `v` with bit `i` written to `b`, set or cleared (R103). -/
def setBit {n : Nat} (v : BitVec n) (i : Nat) (b : Bool) : BitVec n :=
  if b then v ||| (1#n <<< i) else v &&& ~~~(1#n <<< i)

/-- QTAB[i] (R88). -/
def qtabAt (p : Params) (i : BitVec 4) : Int := p.qtab[i.toNat]'i.isLt

/-- The encoder a word names (R81). -/
def State.encoder (s : State) (e : Fin 2) : Encoder := if e = 0 then s.enc0 else s.enc1

/-- The table record of a sensor (R26). -/
def State.sensor (s : State) (i : SensorId) : Sensor := s.params.sensors[i]

/-- MUXSEL = CH[NXT], the channel the next requested conversion uses (R27). -/
def State.muxsel (s : State) : BitVec 4 := (s.sensor s.nxt).ch

/-- Binarisation (R102): 1 when the sample is at least CUTOFF. -/
def binarise (v : BitVec 12) : Bool := decide (cutoff.toNat ≤ v.toNat)

/-- A cursor as its two bits (R27). -/
def cursorBits (i : Fin 3) : BitVec 2 := BitVec.ofNat 2 i.val

/-- ENC_STAT, register 0x02 (R57). -/
def State.encStat (s : State) : Word :=
  0#4 ++ s.enc1.lines ++ s.enc0.lines ++ s.enc1.hist ++ s.enc0.hist

/-- SEQ_STAT, register 0x03 (R57). -/
def State.seqStat (s : State) : Word :=
  0#2 ++ BitVec.ofBool s.convBusy ++ BitVec.ofBool s.adf ++ s.dacc ++ s.acc ++ s.rc ++ cursorBits s.nxt
    ++ cursorBits s.cur

/-- STATUS, register 0x07 (R57). Bit 8 is SLEEPING, which a host step never finds set (R57, R150). -/
def State.statusWord (s : State) : Word :=
  0#7 ++ BitVec.ofBool s.sleeping ++ BitVec.ofBool s.btnLine ++ BitVec.ofBool s.dbtArmed ++ BitVec.ofBool s.dbDir
    ++ BitVec.ofBool (dbStateBit s.dbState) ++ BitVec.ofBool s.goPrev ++ BitVec.ofBool s.go
    ++ BitVec.ofBool s.tripStop ++ BitVec.ofBool s.tripLost

/-- SENSORS, register 0x0C (R57). -/
def State.sensorsWord (s : State) : Word :=
  0#8 ++ cursorBits (s.sensor s.cur).dbit ++ cursorBits (s.sensor s.cur).lbit ++ (s.sensor s.cur).ch

/-- RegRead(a): the composition of R57 at a defined address, nothing at a reserved one (R54, R56). -/
def State.regRead (s : State) (a : RegAddr) : Option Word :=
  match a.toNat with
  | 0x00 => some s.enc0.count
  | 0x01 => some s.enc1.count
  | 0x02 => some s.encStat
  | 0x03 => some s.seqStat
  | 0x04 => some (0#13 ++ s.lp)
  | 0x05 => some (0#4 ++ s.sampleReg)
  | 0x06 => some (s.stop ++ s.lost)
  | 0x07 => some s.statusWord
  | 0x08 => some (0#9 ++ s.pendVector)
  | 0x09 => some (0#9 ++ s.en)
  | 0x0A => some (s.dutyL ++ s.dutyR)
  | 0x0B => some (0#8 ++ s.muxsel ++ s.convCh)
  | 0x0C => some s.sensorsWord
  | _ => none

end Sys2Proof.Machine
end

