-- ==== Sys2Proof/Machine/Ops.lean ====
section
/-! DEFINITION. The operations the meanings share: the output log (R49), the pending latches (R41), the one write of EN
(R111, R140), starting a conversion (R97, R104), the end of a step with its wake (R165), when a step is enabled (R148,
R150), and taking an interrupt (R151). A service's return restores nothing and has no operation of its own (R155). -/

namespace Sys2Proof.Machine

open Sys2Proof.Config

/-- What a meaning answers. -/
abbrev Result := Host.Outcome State Fault Refusal

/-- `emit ev`: append an output event to the log (R14, R49). -/
def State.emit (s : State) (ev : Out) : State := { s with log := s.log ++ [ev] }

/-- The latches with the one of `src` written; QED has none (R41). -/
def Latches.set (l : Latches) (src : Source) (b : Bool) : Latches :=
  match src with
  | .disp => { l with disp := b }
  | .btn => { l with btn := b }
  | .adc => { l with adc := b }
  | .qed => l
  | .dbt => { l with dbt := b }
  | .ctrl => { l with ctrl := b }
  | .obs => { l with obs := b }

/-- `PEND[src] <- b` for a latched source (R41). -/
def State.setPend (s : State) (src : Source) (b : Bool) : State := { s with latch := s.latch.set src b }

/-- `EN <- m`, the one write of EN: a change of EN[BTN] clears PEND[BTN] in the same step (R111, R140). -/
def State.writeEn (s : State) (m : BitVec 7) : State :=
  { s with
    en := m
    latch := if s.en.getLsbD (sourceId .btn) = m.getLsbD (sourceId .btn) then s.latch else s.latch.set .btn false }

/-- `EN[BTN] <- b` (R112, R114), by the one write of EN. -/
def State.writeEnBtn (s : State) (b : Bool) : State := s.writeEn (setBit s.en (sourceId .btn) b)

/-- Ask the analog front-end for a conversion on CH[NXT] (R97, R104). -/
def State.startConversion (s : State) : State :=
  { s with convBusy := true, convCh := s.muxsel, log := s.log ++ [.conv s.muxsel] }

/-- The lines of encoder `e` written (R87). -/
def State.setLines (s : State) (e : Fin 2) (lines : BitVec 2) : State :=
  if e = 0 then { s with enc0 := { s.enc0 with lines := lines } }
  else { s with enc1 := { s.enc1 with lines := lines } }

/-- The wake: SLEEPING is cleared if some source is both pending and enabled (R165). -/
def State.wake (s : State) : State := if s.quiescent then s else { s with sleeping := false }

/-- The end of a step taken from `before` that leaves `after`: a step taken while asleep ends with the wake (R165). -/
def endStep (before after : State) : Result := .next (if before.sleeping then after.wake else after)

/-- A host step is enabled only when awake and quiescent (R150). -/
def State.hostEnabled (s : State) : Bool := !s.sleeping && s.quiescent

/-- Whether an operation's step is enabled in a state (R10, R136, R150, R151). An environment word is always enabled:
what its precondition forbids is refused, not held (R159). -/
def State.stepEnabled (s : State) (i : Instr) : Bool :=
  match i.role with
  | .environment => true
  | .harness => s.quiescent
  | .host => s.hostEnabled
  | .service src => s.nextService == some src

/-- An environment word with no timer behind it: ENC and BTN, which run awake or asleep (R87, R109, R164). -/
def asyncStep (s : State) (effect : State → State) : Result := endStep s (effect s)

/-- A timer or ADC word: the clock that drives it is halted while asleep (R159 X5). -/
def clockedStep (s : State) (body : State → Result) : Result :=
  if s.sleeping then .refused .clockHalted else body s

/-- A host word: held unless awake and quiescent (R150, R161). -/
def hostStep (s : State) (body : State → Result) : Result :=
  if s.hostEnabled then body s else .fault .held

/-- The dispatch step, that is TAKING an interrupt (R151): only the first serviceable source is taken; its latch is
cleared before the service runs (QED has no latch); nothing is saved and no mode changes (R154). -/
def dispatch (src : Source) (s : State) (service : State → State) : Result :=
  if s.nextService = some src then endStep s (service (s.setPend src false)) else .fault .held

end Sys2Proof.Machine
end

