-- ==== Sys2Proof/Machine/Debounce.lean ====
section
/-! DEFINITION. The button debounce machine and go latch DEB (42_debounce.md): BTN, DBT_FIRE, SVC_BTN, SVC_DBT and
H_GOEDGE. -/

namespace Sys2Proof.Machine

open Sys2Proof.Config

/-- The button line and its edge detector (R109): an edge is latched, with its direction, only while EN[BTN] = 1 and
PEND[BTN] = 0. -/
def State.buttonLevel (s : State) (l : Bool) : State :=
  if s.enabled .btn && !s.pend .btn && l != s.btnLine then
    { s with btnLine := l, dbDir := l }.setPend .btn true
  else { s with btnLine := l }

/-- CONFIRM(sample) (R113). -/
def State.confirms (s : State) (sample : Bool) : Bool :=
  sample == s.dbDir &&
    match s.params.toggleOn with
    | .both => true
    | .pressOnly pressLevel => sample == pressLevel

/-- The pseudocode of SVC_BTN: arm, or re-arm, the debouncer (R112, R119). -/
def State.armDebounce (s : State) : State :=
  ({ s with dbState := .debouncing, dbtArmed := true }.writeEnBtn false).setPend .dbt false

/-- The pseudocode of SVC_DBT: confirm or discard, and return to idle either way (R114). -/
def State.confirmDebounce (s : State) : State :=
  match s.dbState with
  | .debouncing => { s with go := s.go ^^ s.confirms s.btnLine, dbState := .idle }.writeEnBtn true
  | .idle => s

/-- The pseudocode of H_GOEDGE: act once per go-latch edge (R115). -/
def State.goEdge (s : State) : State :=
  if s.go = s.goPrev then s
  else { s.emit (if s.go then .start else .pause) with goPrev := s.go }

/-- BTN l (R109). -/
def execBtn (l : Bool) (s : State) : Result := asyncStep s fun s => s.buttonLevel l

/-- DBT_FIRE (R110): refused X5 asleep, X4 when not armed. -/
def execDbtFire (s : State) : Result :=
  clockedStep s fun s =>
    if s.dbtArmed then endStep s ({ s with dbtArmed := false }.setPend .dbt true) else .refused .notArmed

/-- SVC_BTN (R112). -/
def execSvcBtn (s : State) : Result := dispatch .btn s State.armDebounce

/-- SVC_DBT (R114). -/
def execSvcDbt (s : State) : Result := dispatch .dbt s State.confirmDebounce

/-- H_GOEDGE (R115). -/
def execHGoedge (s : State) : Result := hostStep s fun s => endStep s s.goEdge

end Sys2Proof.Machine
end

