-- ==== Sys2Proof/Machine/Dispatcher.lean ====
section
/-! DEFINITION. The dispatcher unit DSP (44_dispatcher_and_host.md): TICK_OBS, TICK_DISP, SVC_OBS, SVC_DISP, SYNC,
H_READ, H_SLEEP and H_SETEN. -/

namespace Sys2Proof.Machine

/-- TICK_OBS (R132): refused X5 asleep. -/
def execTickObs (s : State) : Result := clockedStep s fun s => endStep s (s.setPend .obs true)

/-- TICK_DISP (R133): refused X5 asleep. -/
def execTickDisp (s : State) : Result := clockedStep s fun s => endStep s (s.setPend .disp true)

/-- SVC_OBS (R134): no effect beyond the clearing of PEND[OBS] at dispatch. -/
def execSvcObs (s : State) : Result := dispatch .obs s fun s => s

/-- SVC_DISP (R135): the live display pattern goes to the display driver. -/
def execSvcDisp (s : State) : Result := dispatch .disp s fun s => s.emit (.disp s.dacc)

/-- SYNC (R136): enabled at quiescence, asleep or not; no effect on the block's state. -/
def execSync (s : State) : Result := if s.quiescent then endStep s s else .fault .held

/-- H_READ A (R137): emits the register's value; refused X6 at a reserved address (R56). -/
def execHRead (a : RegAddr) (s : State) : Result :=
  hostStep s fun s =>
    match s.regRead a with
    | some d => endStep s (s.emit (.read a d))
    | none => .refused .reservedAddress

/-- H_SLEEP (R139): the clock halts. -/
def execHSleep (s : State) : Result := hostStep s fun s => endStep s { s.emit .sleep with sleeping := true }

/-- H_SETEN M (R140). -/
def execHSeten (m : BitVec 7) (s : State) : Result := hostStep s fun s => endStep s (s.writeEn m)

end Sys2Proof.Machine
end

