-- ==== Sys2Proof/Machine/FaultAccumulator.lean ====
section
/-! DEFINITION. The fault accumulator with threshold trigger FLT (43_fault_accumulator.md): TICK_CTRL, SVC_CTRL and
H_RECOVER. -/

namespace Sys2Proof.Machine

open Sys2Proof.Config

/-- One classified control period (R123, R124, R125). -/
def State.applyStatus (s : State) : Status → State
  | .normal r l => { s.emit (.duty r l) with dutyR := r, dutyL := l, lost := 0, stop := 0 }
  | .lost => { s with lost := satInc s.lost }
  | .stop => { s with stop := satInc s.stop }

/-- The pseudocode of SVC_CTRL: no effect while the go latch is paused and CTRL_GATED holds (R123, R128). -/
def State.controlPeriod (s : State) : State :=
  if s.go || !s.params.ctrlGated then s.applyStatus (classify s.lp) else s

/-- TICK_CTRL (R120): refused X5 asleep. -/
def execTickCtrl (s : State) : Result := clockedStep s fun s => endStep s (s.setPend .ctrl true)

/-- SVC_CTRL (R123). -/
def execSvcCtrl (s : State) : Result := dispatch .ctrl s State.controlPeriod

/-- H_RECOVER (R126). -/
def execHRecover (s : State) : Result :=
  hostStep s fun s => endStep s { s with go := false, goPrev := false, lost := 0, stop := 0 }

end Sys2Proof.Machine
end

