-- ==== Sys2Proof/Machine/Quadrature.lean ====
section
/-! DEFINITION. The quadrature-encoder state decoder QED (40_quadrature_decoder.md): ENC and SVC_QED. -/

namespace Sys2Proof.Machine

open Sys2Proof.Config

/-- One encoder's part of SVC_QED (R89): on an edge, the 4-bit history `prev ++ new` indexes QTAB, becomes HIST, and the
increment is added to COUNT modulo 2^16 (R94). -/
def Encoder.decodeEdge (p : Params) (c : Encoder) : Encoder :=
  if c.changed then
    { c with
      hist := c.newest ++ c.lines
      count := BitVec.ofInt 16 (c.count.toInt + qtabAt p (c.newest ++ c.lines)) }
  else c

/-- The pseudocode of SVC_QED, encoder 0 then encoder 1 (R89). -/
def State.decodeEdges (s : State) : State :=
  { s with enc0 := s.enc0.decodeEdge s.params, enc1 := s.enc1.decodeEdge s.params }

/-- ENC e, s (R87). -/
def execEnc (e : Fin 2) (a b : Bool) (s : State) : Result := asyncStep s fun s => s.setLines e (lineState a b)

/-- SVC_QED (R89), dispatched by R151. -/
def execSvcQed (s : State) : Result := dispatch .qed s State.decodeEdges

end Sys2Proof.Machine
end

