-- ==== Sys2Proof/Machine/Sequencer.lean ====
section
/-! DEFINITION. The round-robin analog-sample sequencer SEQ (41_sample_sequencer.md): ADC, SVC_ADC, H_SAMPLE and
H_REARM. -/

namespace Sys2Proof.Machine

open Sys2Proof.Config

/-- SEQ_PUBLISH: LP takes ACC by one write, ACC starts fresh (R100). -/
def State.seqPublish (s : State) : State := { s with lp := s.acc, acc := 0 }

/-- SEQ_ADOPT: adopt a pre-advanced NXT, with a publish when the ring returns to HEAD (R99). -/
def State.seqAdopt (s : State) : State :=
  if s.nxt = s.cur then s
  else if s.nxt = s.params.head then { s with cur := s.nxt, rc := 0 }.seqPublish
  else { s with cur := s.nxt, rc := 0 }

/-- SEQ_MEASURE(v): fold the bit into ACC and DACC at the sensor's own indices, and pre-advance NXT (R103). -/
def State.seqMeasure (s : State) (v : BitVec 12) : State :=
  { s with
    acc := setBit s.acc (s.sensor s.cur).lbit.val (binarise v)
    dacc := setBit s.dacc (s.sensor s.cur).dbit.val (binarise v)
    nxt := (s.sensor s.cur).succ }

/-- The reading count of R101, then the measurement when it reaches READINGS_MAX (R98). -/
def State.seqCount (s : State) (v : BitVec 12) : State :=
  if s.rc + 1 = readingsMax then { s with rc := s.rc + 1 }.seqMeasure v else { s with rc := s.rc + 1 }

/-- The pseudocode of H_SAMPLE: nothing without a flagged sample (R98). -/
def State.runSequencer (s : State) : State :=
  if s.adf then ({ s with adf := false }.seqAdopt).seqCount s.sampleReg else s

/-- ADC V (R96): refused X5 asleep, X3 with no conversion in flight. -/
def execAdc (v : BitVec 12) (s : State) : Result :=
  clockedStep s fun s =>
    if s.convBusy then endStep s ({ s with sampleReg := v, convBusy := false }.setPend .adc true)
    else .refused .noConversion

/-- SVC_ADC (R97): flag the sample and restart the converter. -/
def execSvcAdc (s : State) : Result := dispatch .adc s fun s => { s with adf := true }.startConversion

/-- H_SAMPLE (R98). -/
def execHSample (s : State) : Result := hostStep s fun s => endStep s s.runSequencer

/-- H_REARM (R104). -/
def execHRearm (s : State) : Result :=
  hostStep s fun s => endStep s (({ s with adf := false }.setPend .adc false).startConversion)

end Sys2Proof.Machine
end

