-- ==== Sys2Proof/Machine/Dispatch.lean ====
section
/-! DEFINITION. exec: one arm per constructor of Instr, each one direct call of its meaning. -/

namespace Sys2Proof.Machine

def exec (i : Instr) (s : State) : Host.Outcome State Fault Refusal :=
  match i with
  | .enc e a b => Sys2Proof.Machine.execEnc e a b s
  | .btn l => Sys2Proof.Machine.execBtn l s
  | .adc v => Sys2Proof.Machine.execAdc v s
  | .tickObs => Sys2Proof.Machine.execTickObs s
  | .tickCtrl => Sys2Proof.Machine.execTickCtrl s
  | .tickDisp => Sys2Proof.Machine.execTickDisp s
  | .dbtFire => Sys2Proof.Machine.execDbtFire s
  | .sync => Sys2Proof.Machine.execSync s
  | .hSample => Sys2Proof.Machine.execHSample s
  | .hGoedge => Sys2Proof.Machine.execHGoedge s
  | .hRecover => Sys2Proof.Machine.execHRecover s
  | .hSleep => Sys2Proof.Machine.execHSleep s
  | .hRearm => Sys2Proof.Machine.execHRearm s
  | .hRead a => Sys2Proof.Machine.execHRead a s
  | .hSeten m => Sys2Proof.Machine.execHSeten m s
  | .svcDisp => Sys2Proof.Machine.execSvcDisp s
  | .svcBtn => Sys2Proof.Machine.execSvcBtn s
  | .svcAdc => Sys2Proof.Machine.execSvcAdc s
  | .svcQed => Sys2Proof.Machine.execSvcQed s
  | .svcDbt => Sys2Proof.Machine.execSvcDbt s
  | .svcCtrl => Sys2Proof.Machine.execSvcCtrl s
  | .svcObs => Sys2Proof.Machine.execSvcObs s

end Sys2Proof.Machine
end

