-- ==== Sys2Proof/WellFormed.lean ====
section
/-! DEFINITION. Well-formedness: which operations have a word (30_encoding.md R82), and which parameters are legal
(10_state.md R26, 40_quadrature_decoder.md R88, 93_implementation_defined.md section 3). Operand ranges are the widths
of the operands' types (R81). -/

namespace Sys2Proof

/-- A service has no word: the dispatcher runs it (R82, R151). Every other operation has exactly one. -/
def Instr.hasWord (i : Instr) : Bool :=
  match i.role with
  | .environment => true
  | .harness => true
  | .host => true
  | .service _ => false

/-- An instruction of the operation stream: one that has a word. -/
abbrev Instr.WellFormed (i : Instr) : Prop := i.hasWord = true

namespace Config

/-- Every increment of QTAB is one of -1, 0 and +1 (R88). -/
def Params.qtabInRange (p : Params) : Bool :=
  p.qtab.toList.all fun d => d == -1 || d == 0 || d == 1

/-- QTAB gives 0 where both bits change at once: indices 3, 6, 9 and 12 (R88, R92). -/
def Params.qtabGlitchFree (p : Params) : Bool :=
  p.qtab[3] == 0 && p.qtab[6] == 0 && p.qtab[9] == 0 && p.qtab[12] == 0

/-- LBIT is a permutation of 0, 1, 2 (R26). -/
def Params.lbitPermutes (p : Params) : Bool :=
  p.sensors[0].lbit != p.sensors[1].lbit && p.sensors[0].lbit != p.sensors[2].lbit
    && p.sensors[1].lbit != p.sensors[2].lbit

/-- DBIT is a permutation of 0, 1, 2 (R26). -/
def Params.dbitPermutes (p : Params) : Bool :=
  p.sensors[0].dbit != p.sensors[1].dbit && p.sensors[0].dbit != p.sensors[2].dbit
    && p.sensors[1].dbit != p.sensors[2].dbit

/-- The ring successor of sensor `i` (R26). -/
def Params.succ (p : Params) (i : SensorId) : SensorId := p.sensors[i].succ

/-- SUCC is a single 3-cycle (R26; 93 section 3): no sensor follows itself, and three steps lead back. -/
def Params.succCycle (p : Params) : Bool :=
  (List.finRange 3).all fun i => p.succ i != i && p.succ (p.succ (p.succ i)) == i

/-- The parameters a model may take: all five checks. -/
abbrev Params.WellFormed (p : Params) : Prop :=
  (p.qtabInRange && p.qtabGlitchFree && p.lbitPermutes && p.dbitPermutes && p.succCycle) = true

/-- OFS[i], the signed offset to the next sensor, `CH[SUCC[i]] - CH[i]`; no rule reads it (R26). -/
def Params.ofs (p : Params) (i : SensorId) : Int :=
  (p.sensors[p.succ i].ch.toNat : Int) - (p.sensors[i].ch.toNat : Int)

end Config

end Sys2Proof
end

