-- ==== Sys2Proof/Decode.lean ====
section
/-! DEFINITION. The decoder and the encoder, both written from the formats of 30_encoding.md R71 to R84, and the opcode
map R82 as a table. -/

namespace Sys2Proof

/-- Why a word is ILLEGAL (R83). All three are refused with reason X1. -/
inductive IllegalWord where
  /-- OP is 0b0000, 0b0101, 0b0110 or 0b1111. -/
  | reservedOp
  /-- OP is 0b0100 and T is 4 to 7. -/
  | reservedTimer
  /-- A reserved-zero bit of the word's format is set. -/
  | reservedBits
  deriving DecidableEq, Repr

/-- One row of the opcode map R82. -/
structure OpcodeRow where
  mnemonic : String
  bits     : Word
  mask     : Word
  deriving DecidableEq, Repr

/-- A word meets a row when its masked bits are the row's match (R82). -/
def OpcodeRow.meets (r : OpcodeRow) (w : Word) : Bool := (w &&& r.mask) == r.bits

/-- The rows of R82, in its order. -/
def opcodeMap : List OpcodeRow :=
  [⟨"ENC", 0x1000, 0xFEFC⟩, ⟨"BTN", 0x2000, 0xFFFE⟩, ⟨"ADC", 0x3000, 0xF000⟩, ⟨"TICK_OBS", 0x4000, 0xFFFF⟩,
   ⟨"TICK_CTRL", 0x4001, 0xFFFF⟩, ⟨"TICK_DISP", 0x4002, 0xFFFF⟩, ⟨"DBT_FIRE", 0x4003, 0xFFFF⟩]
  ++ [⟨"SYNC", 0x7000, 0xFFFF⟩, ⟨"H_SAMPLE", 0x8000, 0xFFFF⟩, ⟨"H_GOEDGE", 0x9000, 0xFFFF⟩,
   ⟨"H_RECOVER", 0xA000, 0xFFFF⟩, ⟨"H_SLEEP", 0xB000, 0xFFFF⟩, ⟨"H_REARM", 0xC000, 0xFFFF⟩,
   ⟨"H_READ", 0xD000, 0xFFE0⟩, ⟨"H_SETEN", 0xE000, 0xFF80⟩]

/-- A word of class H has bit 15 set (R71). -/
def isHostClass (w : Word) : Bool := w.getLsbD 15

/-- The reserved-zero check of a format: the bits under `zeros` must be 0 (R73 to R80, R84). -/
def checkZeros (w zeros : Word) (i : Instr) : Except IllegalWord Instr :=
  if w &&& zeros = 0 then .ok i else .error .reservedBits

/-- E-TICK (R76): T = w[2:0] selects the timer; w[11:3] must be 0. -/
def decodeTick (w : Word) : Except IllegalWord Instr :=
  match (w.extractLsb' 0 3).toNat with
  | 0 => checkZeros w 0x0FF8 .tickObs
  | 1 => checkZeros w 0x0FF8 .tickCtrl
  | 2 => checkZeros w 0x0FF8 .tickDisp
  | 3 => checkZeros w 0x0FF8 .dbtFire
  | _ => .error .reservedTimer

/-- Decoding (R84): OP = w[15:12] selects the format, T the timer of E-TICK, then the reserved bits are checked.
Operands are assembled as R81 says. -/
def decode (w : Word) : Except IllegalWord Instr :=
  match (w.extractLsb' 12 4).toNat with
  | 0x1 => checkZeros w 0x0EFC (.enc (if w.getLsbD 8 then 1 else 0) (w.getLsbD 1) (w.getLsbD 0))
  | 0x2 => checkZeros w 0x0FFE (.btn (w.getLsbD 0))
  | 0x3 => .ok (.adc (w.extractLsb' 0 12))
  | 0x4 => decodeTick w
  | 0x7 => checkZeros w 0x0FFF .sync
  | 0x8 => checkZeros w 0x0FFF .hSample
  | 0x9 => checkZeros w 0x0FFF .hGoedge
  | 0xA => checkZeros w 0x0FFF .hRecover
  | 0xB => checkZeros w 0x0FFF .hSleep
  | 0xC => checkZeros w 0x0FFF .hRearm
  | 0xD => checkZeros w 0x0FE0 (.hRead (w.extractLsb' 0 5))
  | 0xE => checkZeros w 0x0F80 (.hSeten (w.extractLsb' 0 7))
  | _ => .error .reservedOp

/-- One bit as a 1-bit vector, for the encoder's patterns. -/
def bit (b : Bool) : BitVec 1 := BitVec.ofBool b

/-- The word of an operation, laid out by the patterns of R73 to R80; a service has none (R82). -/
def encode : Instr → Option Word
  | .enc e a b => some (0b0001#4 ++ 0#3 ++ BitVec.ofNat 1 e.val ++ 0#6 ++ bit a ++ bit b)
  | .btn l => some (0b0010#4 ++ 0#11 ++ bit l)
  | .adc v => some (0b0011#4 ++ v)
  | .tickObs => some (0b0100#4 ++ 0#9 ++ 0#3)
  | .tickCtrl => some (0b0100#4 ++ 0#9 ++ 1#3)
  | .tickDisp => some (0b0100#4 ++ 0#9 ++ 2#3)
  | .dbtFire => some (0b0100#4 ++ 0#9 ++ 3#3)
  | .sync => some (0b0111#4 ++ 0#12)
  | .hSample => some (0b1000#4 ++ 0#12)
  | .hGoedge => some (0b1001#4 ++ 0#12)
  | .hRecover => some (0b1010#4 ++ 0#12)
  | .hSleep => some (0b1011#4 ++ 0#12)
  | .hRearm => some (0b1100#4 ++ 0#12)
  | .hRead a => some (0b1101#4 ++ 0#7 ++ a)
  | .hSeten m => some (0b1110#4 ++ 0#5 ++ m)
  | .svcDisp => none
  | .svcBtn => none
  | .svcAdc => none
  | .svcQed => none
  | .svcDbt => none
  | .svcCtrl => none
  | .svcObs => none

/-- The word with the `nbits` low bits of `w`, every higher bit 0. A word is one 16-bit value, not a byte sequence
(R61, R71). -/
def tableWord (nbits w : Nat) : Word := BitVec.ofNat 16 (w % 2 ^ nbits)

/-- The host's question: the instruction this decoder reads from an instruction whose bits are `w`. -/
def decodeTableWord (nbits w : Nat) : Option Instr :=
  match decode (tableWord nbits w) with
  | .ok i => some i
  | .error _ => none

end Sys2Proof
end

