-- ==== Sys2Proof/Machine/Schedule.lean ====
section
/-! DEFINITION. Who takes the next step: the general step relation of 00_scope.md R10 and the trace schedulers EAGER and
LAZY of 44_dispatcher_and_host.md R141, with the holds and the refusals X1 and X2 of 60_exceptions.md R159 and R161. -/

namespace Sys2Proof.Machine

/-- What the schedule takes next. -/
inductive Move where
  /-- The enabled step of operation `i`, taken in state `s`, from which its word has been removed. -/
  | run (i : Instr) (s : State)
  /-- The run is refused (R160). -/
  | refuse (r : Refusal)
  /-- Nothing to do: no word is left, no source is serviceable and the block is awake (log 4). -/
  | idle
  /-- Nothing can be done (R161; 93_implementation_defined.md section 4). -/
  | stuck
  deriving DecidableEq, Repr

/-- The first word with a property, and the list without it: an agent's next word in the common stream (log 3). -/
def takeFirst (p : Word → Bool) : List Word → Option (Word × List Word)
  | [] => none
  | w :: ws =>
    if p w then some (w, ws)
    else match takeFirst p ws with
      | none => none
      | some (x, rest) => some (x, w :: rest)

/-- The dispatcher's step, if one is enabled (R151). -/
def State.dspMove (s : State) : Option Move :=
  match s.nextService with
  | none => none
  | some src => some (.run src.service s)

/-- The step of word `w`, which leaves `rest` in the stream: refused X1 if it is illegal, nothing if it holds (R83,
R161). -/
def State.wordMove (s : State) (w : Word) (rest : List Word) : Option Move :=
  match decode w with
  | .error _ => some (.refuse .illegalWord)
  | .ok i => if s.stepEnabled i then some (.run i { s with stream := rest }) else none

/-- The step of the first word of one class, if there is one and it does not hold. -/
def State.classMove (s : State) (p : Word → Bool) : Option Move :=
  match takeFirst p s.stream with
  | none => none
  | some (w, rest) => s.wordMove w rest

/-- The step an agent can take now (R9, R10). -/
def State.agentMove (s : State) : Agent → Option Move
  | .env => s.classMove fun w => !isHostClass w
  | .dsp => s.dspMove
  | .host => s.classMove isHostClass

/-- No agent has a step left: idle when awake with no word left, stuck otherwise (R161, R185; log 4, log 5). -/
def State.endMove (s : State) : Move :=
  if s.sleeping || !s.stream.isEmpty then .stuck else .idle

/-- The agents in the order in which they are asked when no turn decides (log 3). -/
def State.anyMove (s : State) : Move :=
  match s.agentMove .dsp with
  | some m => m
  | none =>
    match s.agentMove .env with
    | some m => m
    | none =>
      match s.agentMove .host with
      | some m => m
      | none => s.endMove

/-- The general step relation (R10): the agent whose turn it is, if its step is enabled; the turns name any order. -/
def State.generalMove (s : State) : Move :=
  match s.turns with
  | [] => s.anyMove
  | a :: rest =>
    match { s with turns := rest }.agentMove a with
    | some m => m
    | none => { s with turns := rest }.anyMove

/-- A trace scheduler at the head of the trace (R141): X1 for an illegal word, X2 for a host word while asleep, in the
order of R159. -/
def State.headMove (s : State) : Move :=
  match s.stream with
  | [] => s.endMove
  | w :: rest =>
    match decode w with
    | .error _ => .refuse .illegalWord
    | .ok i =>
      if i.role = .host ∧ s.sleeping = true then .refuse .hostWhileAsleep
      else if s.stepEnabled i then .run i { s with stream := rest }
      else .stuck

/-- EAGER: services until none is serviceable, then the next word (R141). -/
def State.eagerMove (s : State) : Move :=
  match s.dspMove with
  | some m => m
  | none => s.headMove

/-- LAZY: words back to back, services only where the next word needs quiescence and at the end of the trace (R141). -/
def State.lazyMove (s : State) : Move :=
  match s.stream with
  | [] => s.eagerMove
  | w :: _ =>
    match decode w with
    | .error _ => s.headMove
    | .ok i => if s.stepEnabled i then s.headMove else s.eagerMove

/-- The next step, by the scheduler in force (R10, R141). -/
def State.nextMove (s : State) : Move :=
  match s.sched with
  | .general => s.generalMove
  | .eager => s.eagerMove
  | .lazy => s.lazyMove

/-- `s` with the word stored where the next step takes it: at the head of the stream, under LAZY, the scheduler that
takes an enabled word before any service (log 2). -/
def State.loadWord (s : State) (w : Word) : State := { s with stream := w :: s.stream, sched := .lazy }

end Sys2Proof.Machine
end

