-- ==== Sys2Proof/Machine/Step.lean ====
section
/-! DEFINITION. One step of a run: the step the schedule takes, run by exec. -/

namespace Sys2Proof.Machine

/-- One atomic step (R9, R10, R141). When there is nothing to do the block stays as it is (log 4). -/
def step (s : State) : Host.Outcome State Fault Refusal :=
  match s.nextMove with
  | .run i t => exec i t
  | .refuse r => .refused r
  | .idle => .next s
  | .stuck => .fault .stuck

/-- `s` with the word of the low `nbits` bits of `w` as the operation the next step takes (log 2). -/
def State.withFetchWord (s : State) (nbits w : Nat) : State := s.loadWord (tableWord nbits w)

end Sys2Proof.Machine
end

