-- ==== Sys2Proof/Machine/Assembly.lean ====
section
/-! DEFINITION. The assembler syntax (30_encoding.md R85), the pseudo-operations and their expansions (R86), and the
words of the host's main loop and recoveries (44_dispatcher_and_host.md R142 to R144). The blinks, `pause_delivery()`
and `turn_around()` of the recoveries are host actions outside the block (R145). -/

namespace Sys2Proof.Machine

/-- A line of assembly, as characters. -/
abbrev Text := List Char

/-- ENC with its operand given as a 2-bit state, line A in bit 1 (R81). -/
def encTo (e : Fin 2) (lines : BitVec 2) : Instr := .enc e (lines.getLsbD 1) (lines.getLsbD 0)

/-- F, the forward step of the quadrature sequence 00, 01, 11, 10 (R86, R90). -/
def forwardStep (lines : BitVec 2) : BitVec 2 :=
  match lines.toNat with
  | 0b00 => 0b01
  | 0b01 => 0b11
  | 0b11 => 0b10
  | _ => 0b00

/-- The inverse of F (R86, R90). -/
def reverseStep (lines : BitVec 2) : BitVec 2 :=
  match lines.toNat with
  | 0b00 => 0b10
  | 0b10 => 0b11
  | 0b11 => 0b01
  | _ => 0b00

/-- `boot M` (R86, R174). -/
def bootOps (m : BitVec 7) : List Instr := [.hSeten m, .hRearm]

/-- `poll` (R86, R142): STATUS is register 0x07. -/
def pollOps : List Instr := [.hSample, .hGoedge, .hRead 0x07]

/-- `confirm L` (R86). -/
def confirmOps (l : Bool) : List Instr := [.btn l, .sync, .dbtFire, .sync]

/-- `ctrl N` (R86). -/
def ctrlOps (n : Nat) : List Instr := List.replicate n .tickCtrl

/-- `pair V1, V2` (R86). -/
def pairOps (v1 v2 : BitVec 12) : List Instr := [.adc v1, .hSample, .adc v2, .hSample]

/-- `qfwd E, S` (R86). -/
def qfwdOps (e : Fin 2) (lines : BitVec 2) : List Instr := [encTo e (forwardStep lines)]

/-- `qrev E, S` (R86). -/
def qrevOps (e : Fin 2) (lines : BitVec 2) : List Instr := [encTo e (reverseStep lines)]

/-- What the host issues after a `read STATUS` that returned `status`: the lost recovery if TRIP_LOST, otherwise the
stop recovery if TRIP_STOP (R142, R143, R144). The `rearm` of the stop recovery runs after the wake. -/
def recoveryOps (status : Word) : List Instr :=
  if status.getLsbD 0 then [.hRecover]
  else if status.getLsbD 1 then [.hRecover, .hSleep, .hRearm]
  else []

/-- The words of a list of operations; nothing if one of them is a service. -/
def encodeAll : List Instr → Option (List Word)
  | [] => some []
  | i :: is =>
    match encode i, encodeAll is with
    | some w, some ws => some (w :: ws)
    | _, _ => none

/-- A blank. -/
def isBlank (c : Char) : Bool := c == ' ' || c == '\t'

/-- Without blanks at either end. -/
def trimText (t : Text) : Text := ((t.dropWhile isBlank).reverse.dropWhile isBlank).reverse

/-- The pieces between separators. -/
def splitText (c : Char) : Text → List Text
  | [] => [[]]
  | x :: xs =>
    match splitText c xs with
    | [] => [[x]]
    | y :: ys => if x == c then [] :: y :: ys else (x :: y) :: ys

/-- The value of a digit in a base of at most 16. -/
def digitValue (base : Nat) (c : Char) : Option Nat :=
  if '0' ≤ c ∧ c ≤ '9' ∧ c.toNat - 48 < base then some (c.toNat - 48)
  else if 'a' ≤ c ∧ c ≤ 'f' ∧ c.toNat - 87 < base then some (c.toNat - 87)
  else if 'A' ≤ c ∧ c ≤ 'F' ∧ c.toNat - 55 < base then some (c.toNat - 55)
  else none

/-- The value of a run of digits. -/
def digitsValue (base acc : Nat) : Text → Option Nat
  | [] => some acc
  | c :: cs =>
    match digitValue base c with
    | some d => digitsValue base (acc * base + d) cs
    | none => none

/-- A number: `0x` hexadecimal, `0b` binary, otherwise decimal (R12, R85). -/
def numberText : Text → Option Nat
  | [] => none
  | '0' :: 'x' :: c :: cs => digitsValue 16 0 (c :: cs)
  | '0' :: 'b' :: c :: cs => digitsValue 2 0 (c :: cs)
  | t => digitsValue 10 0 t

/-- A number below a bound. -/
def numberBelow (bound : Nat) (t : Text) : Option Nat :=
  match numberText t with
  | some n => if n < bound then some n else none
  | none => none

/-- A level or an encoder number, 0 or 1. -/
def bitText (t : Text) : Option Bool :=
  match numberBelow 2 t with
  | some n => some (n == 1)
  | none => none

/-- An encoder number. -/
def encoderText (t : Text) : Option (Fin 2) :=
  match bitText t with
  | some b => some (if b then 1 else 0)
  | none => none

/-- A 2-bit state written `0b00` to `0b11`, line A the left digit (R85). -/
def stateText : Text → Option (BitVec 2)
  | ['0', 'b', a, b] =>
    match digitValue 2 a, digitValue 2 b with
    | some x, some y => some (BitVec.ofNat 2 (2 * x + y))
    | _, _ => none
  | _ => none

/-- A 12-bit sample value (R85). -/
def sampleText (t : Text) : Option (BitVec 12) :=
  match numberBelow 4096 t with
  | some n => some (BitVec.ofNat 12 n)
  | none => none

/-- The register names of R57, in address order. -/
def registerNames : List Text :=
  ["ENC0_COUNT".toList, "ENC1_COUNT".toList, "ENC_STAT".toList, "SEQ_STAT".toList, "LINE".toList, "SAMPLE".toList,
   "FAULT".toList, "STATUS".toList, "PEND".toList, "EN".toList, "DUTY".toList, "CONV".toList, "SENSORS".toList]

/-- The position of a name in a list of names. -/
def nameIndex (t : Text) : List Text → Option Nat
  | [] => none
  | n :: ns =>
    if n == t then some 0
    else match nameIndex t ns with
      | some k => some (k + 1)
      | none => none

/-- A register: a number or a name of R57 (R85). -/
def registerText (t : Text) : Option RegAddr :=
  match nameIndex t registerNames with
  | some k => some (BitVec.ofNat 5 k)
  | none =>
    match numberBelow 32 t with
    | some n => some (BitVec.ofNat 5 n)
    | none => none

/-- The source names in id order (R44, R85). -/
def sourceNames : List Text :=
  ["disp".toList, "btn".toList, "adc".toList, "qed".toList, "dbt".toList, "ctrl".toList, "obs".toList]

/-- The enable vector of a list of source names (R85). -/
def sourceMask : List Text → Option (BitVec 7)
  | [] => some 0
  | t :: ts =>
    match nameIndex (trimText t) sourceNames, sourceMask ts with
    | some k, some m => some (m ||| (1#7 <<< k))
    | _, _ => none

/-- An enable vector: a 7-bit number, or source names between braces, characters 123 and 125 (R85). -/
def maskText (t : Text) : Option (BitVec 7) :=
  match t with
  | [] => none
  | c :: cs =>
    if c.toNat = 123 then
      match cs.reverse with
      | [] => none
      | d :: inner => if d.toNat = 125 then sourceMask (splitText ',' inner.reverse) else none
    else
      match numberBelow 128 t with
      | some n => some (BitVec.ofNat 7 n)
      | none => none

/-- The operations of a mnemonic with one operand. -/
def oneOperand (m x : Text) : Option (List Instr) :=
  if m == "btn".toList then (bitText x).map fun l => [.btn l]
  else if m == "adc".toList then (sampleText x).map fun v => [.adc v]
  else if m == "tick".toList then
    if x == "obs".toList then some [.tickObs]
    else if x == "ctrl".toList then some [.tickCtrl]
    else if x == "disp".toList then some [.tickDisp]
    else none
  else if m == "read".toList then (registerText x).map fun a => [.hRead a]
  else if m == "seten".toList then (maskText x).map fun v => [.hSeten v]
  else if m == "boot".toList then (maskText x).map bootOps
  else if m == "confirm".toList then (bitText x).map confirmOps
  else if m == "ctrl".toList then (numberText x).map ctrlOps
  else none

/-- The operations of a mnemonic without operands. -/
def noOperand (m : Text) : Option (List Instr) :=
  if m == "dbt".toList then some [.dbtFire]
  else if m == "sync".toList then some [.sync]
  else if m == "sample".toList then some [.hSample]
  else if m == "goedge".toList then some [.hGoedge]
  else if m == "recover".toList then some [.hRecover]
  else if m == "sleep".toList then some [.hSleep]
  else if m == "rearm".toList then some [.hRearm]
  else if m == "poll".toList then some pollOps
  else none

/-- The operations of a mnemonic with two operands. -/
def twoOperands (m x y : Text) : Option (List Instr) :=
  if m == "pair".toList then
    match sampleText x, sampleText y with
    | some v1, some v2 => some (pairOps v1 v2)
    | _, _ => none
  else
    match encoderText x, stateText y with
    | some e, some lines =>
      if m == "enc".toList then some [encTo e lines]
      else if m == "qfwd".toList then some (qfwdOps e lines)
      else if m == "qrev".toList then some (qrevOps e lines)
      else none
    | _, _ => none

/-- The operands of a line: separated by commas; a brace list is one operand (R85). -/
def operandTexts (t : Text) : List Text :=
  match t with
  | [] => []
  | c :: _ => if c.toNat = 123 then [t] else (splitText ',' t).map trimText

/-- One line (R85): `;` starts a comment, an empty line is no operation, anything else is one operation or
pseudo-operation; nothing if it has no such form. -/
def parseLine (line : Text) : Option (List Instr) :=
  let t := trimText (line.takeWhile (· != ';'))
  let m := t.takeWhile fun c => !isBlank c
  match operandTexts (trimText (t.drop m.length)) with
  | [] => if t.isEmpty then some [] else noOperand m
  | [x] => oneOperand m x
  | [x, y] => twoOperands m x y
  | _ => none

/-- The words of one line (R85, R86). -/
def assembleLine (line : Text) : Option (List Word) := (parseLine line).bind encodeAll

/-- The words of a list of lines, in order. -/
def assemble : List Text → Option (List Word)
  | [] => some []
  | l :: ls =>
    match assembleLine l, assemble ls with
    | some ws, some rest => some (ws ++ rest)
    | _, _ => none

end Sys2Proof.Machine
end

