-- ==== Sys2Proof/Safety.lean ====
section
/-! DEFINITION. What the claims speak of: the invariants of 10_state.md R51, the host's duty of R52, the reachable states
of R51, and the result of a run (60_exceptions.md R160, R161). -/

namespace Sys2Proof.Machine

open Sys2Proof.Config

/-- The cursors and the reading count (R51, second to fourth clauses): RC is never 3; NXT is CUR or its ring successor;
they differ exactly when RC = 2. That CUR and NXT are 0, 1 or 2 is their type. -/
abbrev State.CursorsAgree (s : State) : Prop :=
  s.rc ≠ 3 ∧ (s.nxt = s.cur ∨ s.nxt = s.params.succ s.cur) ∧ (s.nxt ≠ s.cur ↔ s.rc = 2)

/-- The debounce clause of R51, with what makes it inductive: the one-shot never both runs and has fired. -/
abbrev State.DebounceAgrees (s : State) : Prop :=
  (s.dbtArmed = true ∨ s.latch.dbt = true → s.dbState = .debouncing) ∧ ¬(s.dbtArmed = true ∧ s.latch.dbt = true)

/-- The legal values of (DUTY_R, DUTY_L): (0, 0) at reset and the classifier's five pairs (R35, R122). -/
def dutyPairs : List (BitVec 8 × BitVec 8) := [(0, 0), (50, 0), (25, 25), (35, 15), (0, 50), (15, 35)]

/-- The duty clause of R51, sharpened by R35: the pair is a legal one. -/
abbrev State.DutyLegal (s : State) : Prop := (s.dutyR, s.dutyL) ∈ dutyPairs

/-- The sleep clause of R51: while asleep no source is both pending and enabled. -/
abbrev State.SleepQuiet (s : State) : Prop := s.sleeping = true → s.quiescent = true

/-- The invariants of R51, for legal parameters. -/
abbrev State.Inv (s : State) : Prop :=
  s.params.WellFormed ∧ s.CursorsAgree ∧ s.DebounceAgrees ∧ s.DutyLegal ∧ s.SleepQuiet

/-- R52's conclusion: while debouncing, the edge detector is disabled. -/
abbrev State.EdgeClosedWhileDebouncing (s : State) : Prop := s.dbState = .debouncing → s.enabled .btn = false

/-- The start of a run: reset with legal parameters, and any stream, scheduler and turns (R171, R141, R10). -/
def State.initial (p : Params) (stream : List Word) (sched : Scheduler) (turns : List Agent) : State :=
  { State.resetWith p with stream := stream, sched := sched, turns := turns }

/-- The states reachable from reset by the rules of the spec (R51). -/
inductive Reachable : State → Prop where
  | start (p : Params) (stream : List Word) (sched : Scheduler) (turns : List Agent) :
      p.WellFormed → Reachable (State.initial p stream sched turns)
  | step (s t : State) : Reachable s → step s = .next t → Reachable t

/-- Applying the word `w` is refused X1 (R83, R159): by a trace scheduler with no service left to take first, and, under
the general relation, at the turn of the agent of its class (log 7, over the turns of log 3). -/
abbrev RefusedX1 (w : Word) : Prop :=
  ∀ (s : State) (rest : List Word), s.stream = w :: rest →
    (s.sched ≠ .general → s.nextService = none → step s = .refused .illegalWord) ∧
    (∀ ts, s.sched = .general → s.turns = (if isHostClass w then .host else .env) :: ts →
      step s = .refused .illegalWord)

/-- A step is safe when it is not refused: properties are stated over runs that are not refused (R160). -/
def safeOutcome : Result → Bool
  | .next _ => true
  | .fault _ => true
  | .refused _ => false

/-- How a run ends (R160, R161). -/
inductive RunResult where
  /-- Every word has been applied and the block is quiescent and awake. -/
  | finished (s : State)
  /-- "refused Xn at word k": `k` counts words from 1 (log 10). -/
  | refused (r : Refusal) (word : Nat)
  /-- The run is stuck (R161). -/
  | stuck (s : State)
  /-- The fuel ran out. -/
  | running (s : State)
  deriving DecidableEq, Repr

/-- Up to `fuel` steps of a run whose stream held `total` words at its start (R160). -/
def runResult (total : Nat) : Nat → State → RunResult
  | 0, s => .running s
  | fuel + 1, s =>
    if s.nextMove = .idle then .finished s
    else match step s with
      | .next t => runResult total fuel t
      | .fault _ => .stuck s
      | .refused r => .refused r (total - s.stream.length + 1)

/-- The result of the trace `ws` under a scheduler, from reset with parameters `p` (R141, R160). -/
def runTrace (p : Params) (sched : Scheduler) (fuel : Nat) (ws : List Word) : RunResult :=
  runResult ws.length fuel (State.initial p ws sched [])

/-- The steps of a list of operations, each taken by exec in order; stops at the first that is not taken. A sequence of
events and services as the rules R91, R108, R116 and R129 speak of it. -/
def execAll : List Instr → State → Result
  | [], s => .next s
  | i :: is, s =>
    match exec i s with
    | .next t => execAll is t
    | .fault r => .fault r
    | .refused r => .refused r

/-- One conversion that completes with `v`, is flagged and is processed before the next completion (R105). -/
def sampleCycle (v : BitVec 12) : List Instr := [.adc v, .svcAdc, .hSample]

/-- One serviced control period (R129). -/
def controlPeriodCycle : List Instr := [.tickCtrl, .svcCtrl]

/-- One serviced change of the lines of encoder `e` to `(a, b)` (R91). -/
def encoderCycle (e : Fin 2) (a b : Bool) : List Instr := [.enc e a b, .svcQed]

end Sys2Proof.Machine
end

