-- ==== Sys2Proof/Certificates/Slice0/Obligations.lean ====
section
/-! DEFINITION. The statements for the provers. Each docstring names the rules of spec/ it formalises; "log <n>" is
notes/assumptions/<n>.md. -/

open Sys2Proof Sys2Proof.Machine Sys2Proof.Config

/-! Encoding -/

/-- R71 to R82: decoding the word of a well-formed operation gives the operation back, every operand at every value. -/
def Obligations.DecodeOfEncodeIsTheOperation : Prop :=
  ∀ i : Instr, i.WellFormed → ∃ w, encode i = some w ∧ decode w = .ok i

/-- R71 to R82: a word that decodes is the one word of its operation. -/
def Obligations.EncodeOfDecodeIsTheWord : Prop :=
  ∀ (w : Word) (i : Instr), decode w = .ok i → i.WellFormed ∧ encode i = some w

/-- R84: every word decodes to exactly one row of the opcode map, that of its operation, or is illegal and meets none. -/
def Obligations.WordDecodesToExactlyOneRowOrIsIllegal : Prop :=
  ∀ w : Word,
    (∃ i, decode w = .ok i ∧ (opcodeMap.filter fun r => r.meets w).map OpcodeRow.mnemonic = [i.mnemonic]) ∨
    (∃ e, decode w = .error e ∧ opcodeMap.filter (fun r => r.meets w) = [])

/-- R83: the words that meet no row are the listed ones, they are illegal, and applying one is refused X1, by a trace
scheduler with nothing left to service and by the turn of the agent of its class. When in a schedule X1 is raised, and
its half under the general relation, are the model's reading (log 7, over the turns of log 3). -/
def Obligations.UnmatchedWordsAreTheListedOnesAndRefusedX1 : Prop :=
  ∀ w : Word,
    ((∀ r ∈ opcodeMap, r.meets w = false) ↔
      (w.extractLsb' 12 4 = 0b0000 ∨ w.extractLsb' 12 4 = 0b0101 ∨ w.extractLsb' 12 4 = 0b0110
        ∨ w.extractLsb' 12 4 = 0b1111)
      ∨ (w.extractLsb' 12 4 = 0b0100 ∧ (4 ≤ (w.extractLsb' 0 3).toNat ∨ w.extractLsb' 3 9 ≠ 0))
      ∨ (w.extractLsb' 12 4 = 0b0001 ∧ (w.extractLsb' 9 3 ≠ 0 ∨ w.extractLsb' 2 6 ≠ 0))
      ∨ (w.extractLsb' 12 4 = 0b0010 ∧ w.extractLsb' 1 11 ≠ 0)
      ∨ (w.extractLsb' 12 4 = 0b0111 ∧ w.extractLsb' 0 12 ≠ 0)
      ∨ (8 ≤ (w.extractLsb' 12 4).toNat ∧ (w.extractLsb' 12 4).toNat ≤ 12 ∧ w.extractLsb' 0 12 ≠ 0)
      ∨ (w.extractLsb' 12 4 = 0b1101 ∧ w.extractLsb' 5 7 ≠ 0)
      ∨ (w.extractLsb' 12 4 = 0b1110 ∧ w.extractLsb' 7 5 ≠ 0)) ∧
    ((∀ r ∈ opcodeMap, r.meets w = false) → (∃ e, decode w = .error e) ∧ RefusedX1 w)

/-- 95_test_vectors.md section 2.5 "Decoding": one word of every format, and an illegal one, read as the spec says. -/
def Obligations.SpecWordsDecodeAsListed : Prop :=
  decode 0x1103 = .ok (.enc 1 true true) ∧ decode 0x2001 = .ok (.btn true) ∧ decode 0x3FFF = .ok (.adc 4095) ∧
  decode 0x4001 = .ok .tickCtrl ∧ decode 0x7000 = .ok .sync ∧ decode 0xC000 = .ok .hRearm ∧
  decode 0xD007 = .ok (.hRead 7) ∧ decode 0xE07F = .ok (.hSeten 0x7F) ∧ decode 0x1004 = .error .reservedBits

/-- R86: the expansions of the pseudo-operations; F is the listed cycle and `qrev` undoes `qfwd`. -/
def Obligations.PseudoOperationsExpandAsListed : Prop :=
  (∀ m : BitVec 7, encodeAll (bootOps m) = some [0xE000#16 ||| m.zeroExtend 16, 0xC000]) ∧
  encodeAll pollOps = some [0x8000, 0x9000, 0xD007] ∧
  (∀ l : Bool, encodeAll (confirmOps l) = some [if l then 0x2001 else 0x2000, 0x7000, 0x4003, 0x7000]) ∧
  (∀ n : Nat, encodeAll (ctrlOps n) = some (List.replicate n 0x4001)) ∧
  (∀ v1 v2 : BitVec 12, encodeAll (pairOps v1 v2) =
    some [0x3000#16 ||| v1.zeroExtend 16, 0x8000, 0x3000#16 ||| v2.zeroExtend 16, 0x8000]) ∧
  (∀ (e : Fin 2) (l : BitVec 2),
    qfwdOps e l = [.enc e ((forwardStep l).getLsbD 1) ((forwardStep l).getLsbD 0)] ∧
    qrevOps e (forwardStep l) = [.enc e (l.getLsbD 1) (l.getLsbD 0)]) ∧
  (forwardStep 0b00 = 0b01 ∧ forwardStep 0b01 = 0b11 ∧ forwardStep 0b11 = 0b10 ∧ forwardStep 0b10 = 0b00)

/-! Steps and schedulers -/

/-- R141: when a trace scheduler reaches a word whose step is enabled (EAGER: with nothing left to service), step is
exec of the decoded operation, with the word removed from the stream and nothing else changed around it. The stream
and the scheduler in State are the model's (log 2). -/
def Obligations.StepRunsTheDecodedWordOfATrace : Prop :=
  ∀ (s : State) (w : Word) (rest : List Word) (i : Instr),
    s.stream = w :: rest → decode w = .ok i → s.stepEnabled i = true →
    (s.sched = .eager ∧ s.nextService = none) ∨ s.sched = .lazy →
    step s = exec i { s with stream := rest }

/-- Log 2: a word loaded by withFetchWord is the operation the very next step runs, if its step is enabled. -/
def Obligations.StepRunsTheFetchedWord : Prop :=
  ∀ (s : State) (w : Nat) (i : Instr),
    decodeTableWord 16 w = some i → s.stepEnabled i = true →
    step (s.withFetchWord 16 w) = exec i { s with sched := .lazy }

/-- R141, R151: EAGER takes the selected service before any word; LAZY takes it where the next word is held, and at
the end of the trace. The stream and the scheduler in State are the model's (log 2). -/
def Obligations.TraceSchedulersTakeTheSelectedService : Prop :=
  ∀ (s : State) (src : Source), s.nextService = some src →
    (s.sched = .eager → step s = exec src.service s) ∧
    (s.sched = .lazy → s.stream = [] → step s = exec src.service s) ∧
    (s.sched = .lazy → ∀ (w : Word) (rest : List Word) (i : Instr), s.stream = w :: rest → decode w = .ok i →
      s.stepEnabled i = false → step s = exec src.service s)

/-- R10, with the order read from the turns and each agent's words from the one stream (log 3): under the general
relation any agent's enabled step can be the next one: the dispatcher's selected service, or the first class-E or
class-H word of the stream. -/
def Obligations.AnyAgentsEnabledStepCanComeNext : Prop :=
  ∀ (s : State) (ts : List Agent), s.sched = .general →
    (∀ src, s.turns = .dsp :: ts → s.nextService = some src → step s = exec src.service { s with turns := ts }) ∧
    (∀ (front back : List Word) (w : Word) (i : Instr), s.stream = front ++ w :: back →
      decode w = .ok i → s.stepEnabled i = true →
      (s.turns = .env :: ts → isHostClass w = false → (∀ x ∈ front, isHostClass x = true) →
        step s = exec i { s with turns := ts, stream := front ++ back }) ∧
      (s.turns = .host :: ts → isHostClass w = true → (∀ x ∈ front, isHostClass x = false) →
        step s = exec i { s with turns := ts, stream := front ++ back }))

/-- R159 (X2), R161: a host word while asleep is refused exactly by the trace schedulers, at the head of the trace.
The stream and the scheduler in State are the model's (log 2). -/
def Obligations.RefusedX2ExactlyForATraceHostWordAsleep : Prop :=
  ∀ s : State, step s = .refused .hostWhileAsleep ↔
    s.sched ≠ .general ∧ s.sleeping = true ∧
      ∃ w rest i, s.stream = w :: rest ∧ decode w = .ok i ∧ i.role = .host

/-- R150, R151, R136, R161: exec holds exactly when the operation's step is not enabled; that it answers a fault then
is the model's choice (log 6). -/
def Obligations.ExecHoldsExactlyWhenNotEnabled : Prop :=
  ∀ (i : Instr) (s : State), exec i s = .fault .held ↔ s.stepEnabled i = false

/-- R161: a run never stops on a hold; the schedule takes only enabled steps. The fault held is the model's (log 6). -/
def Obligations.StepNeverStopsOnAHold : Prop :=
  ∀ s : State, step s ≠ .fault .held

/-- R161, R185, 93 section 4: where the sleep clause of R51 holds, a run is stuck exactly when the block is asleep and
only host words are left: none at all, or, under the general relation, one that holds. How a run that cannot go on is
reported is log 5. -/
def Obligations.StuckExactlyAsleepWithOnlyHostWordsLeft : Prop :=
  ∀ s : State, s.SleepQuiet →
    (step s = .fault .stuck ↔
      s.sleeping = true ∧ (∀ w ∈ s.stream, isHostClass w = true) ∧
        (s.stream = [] ∨ (s.sched = .general ∧ ∃ w rest i, s.stream = w :: rest ∧ decode w = .ok i)))

/-- R159, R160: exec refuses exactly in the listed conditions X5, X3, X4 and X6, in that precedence. -/
def Obligations.ExecRefusesExactlyAsTabled : Prop :=
  ∀ (i : Instr) (s : State) (r : Refusal), exec i s = .refused r ↔
    (r = .clockHalted ∧ s.sleeping = true ∧
      (i = .tickObs ∨ i = .tickCtrl ∨ i = .tickDisp ∨ i = .dbtFire ∨ ∃ v, i = .adc v)) ∨
    (r = .noConversion ∧ s.sleeping = false ∧ s.convBusy = false ∧ ∃ v, i = .adc v) ∨
    (r = .notArmed ∧ s.sleeping = false ∧ s.dbtArmed = false ∧ i = .dbtFire) ∨
    (r = .reservedAddress ∧ s.sleeping = false ∧ s.quiescent = true ∧ ∃ a, i = .hRead a ∧ 0x0D ≤ a.toNat)

/-! Reset and invariants -/

/-- R48: every element of the block at reset, for any parameters; the reset state holds the parameters it is given,
and those of State.reset are the defaults of R11, R26 and R88 and of the launch parameters. That the parameters stand
in State is the model's choice (log 1); its other own fields, stream, sched and turns, are left free here (log 2, log
3). -/
def Obligations.ResetLeavesTheListedValues : Prop :=
  State.reset = State.resetWith Params.default ∧
  Params.default =
    { qtab := #v[0, 1, -1, 0, -1, 0, 0, 1, 1, 0, 0, -1, 0, -1, 1, 0]
      sensors := #v[⟨0, 0, 2, 1⟩, ⟨1, 1, 1, 2⟩, ⟨2, 2, 0, 0⟩]
      head := 0, histReset := .sampled, toggleOn := .both, ctrlGated := true
      lines0AtReset := 0b00, lines1AtReset := 0b00, btnAtReset := false } ∧
  ∀ p : Params, ∃ l : Latches,
    (l.disp = false ∧ l.btn = false ∧ l.adc = false ∧ l.dbt = false ∧ l.ctrl = false ∧ l.obs = false) ∧
    State.resetWith p =
      { enc0 := ⟨p.lines0AtReset, if p.histReset = .sampled then p.lines0AtReset ++ p.lines0AtReset else 0, 0⟩
        enc1 := ⟨p.lines1AtReset, if p.histReset = .sampled then p.lines1AtReset ++ p.lines1AtReset else 0, 0⟩
        cur := p.head, nxt := p.head, rc := 0, acc := 0, lp := 0, dacc := 0, sampleReg := 0, adf := false
        convBusy := false, convCh := 0, lost := 0, stop := 0, dutyR := 0, dutyL := 0, btnLine := p.btnAtReset
        dbState := .idle, dbDir := false, dbtArmed := false, go := false, goPrev := false, latch := l, en := 0
        sleeping := false, log := [], params := p, stream := (State.resetWith p).stream
        sched := (State.resetWith p).sched, turns := (State.resetWith p).turns }

/-- R51 at reset: with legal parameters the invariants hold at the start of every run, State.reset among them. Two of
its clauses are sharpened (log 18). -/
def Obligations.InvHoldsAtReset : Prop :=
  State.reset.Inv ∧
  ∀ (p : Params) (stream : List Word) (sched : Scheduler) (turns : List Agent),
    p.WellFormed → (State.initial p stream sched turns).Inv

/-- R51, the spec's own inference, two clauses sharpened (log 18): every step keeps the invariants. -/
def Obligations.StepKeepsInv : Prop :=
  ∀ s t : State, s.Inv → step s = .next t → t.Inv

/-- R51, the spec's own inference, clause by clause, in every reachable state. -/
def Obligations.ReachableStatesMeetTheInvariants : Prop :=
  ∀ s : State, Reachable s →
    (s.cur.val < 3 ∧ s.nxt.val < 3) ∧ s.rc.toNat < 3 ∧
    (s.nxt = s.cur ∨ s.nxt = s.params.succ s.cur) ∧ (s.nxt ≠ s.cur ↔ s.rc = 2) ∧
    (s.dbtArmed = true ∨ s.pend .dbt = true → s.dbState = .debouncing) ∧
    (s.tripLost = true ↔ 11 ≤ s.lost.toNat) ∧ (s.tripStop = true ↔ 11 ≤ s.stop.toNat) ∧
    (s.dutyR.toNat + s.dutyL.toNat = 50 ∨ (s.dutyR = 0 ∧ s.dutyL = 0)) ∧
    (s.sleeping = true → ∀ src, ¬(s.pend src = true ∧ s.enabled src = true))

/-- R34: the trips are strict, unsigned and derived. -/
def Obligations.TripsHoldExactlyAboveTen : Prop :=
  ∀ s : State, (s.tripLost = true ↔ s.lost.toNat > 10) ∧ (s.tripStop = true ↔ s.stop.toNat > 10) ∧
    (s.tripLost = true ↔ s.lost.toNat ≥ 11) ∧ (s.tripStop = true ↔ s.stop.toNat ≥ 11)

/-- R52, the spec's own inference: if the host writes EN[BTN] only while DB_STATE = 0, the edge detector stays
disabled while debouncing. -/
def Obligations.EdgeDetectorStaysClosedWhileDebouncing : Prop :=
  State.reset.EdgeClosedWhileDebouncing ∧
  ∀ (i : Instr) (s t : State), s.EdgeClosedWhileDebouncing → exec i s = .next t →
    (∀ m, i = .hSeten m → s.dbState = .idle ∨ m.getLsbD 1 = s.en.getLsbD 1) → t.EdgeClosedWhileDebouncing

/-! Who writes what -/

/-- R49, R50: no operation removes an output event, and none writes the parameters or the schedule (log 1, log 2). -/
def Obligations.LogOnlyGrowsAndParametersStay : Prop :=
  ∀ (i : Instr) (s t : State), exec i s = .next t →
    (∃ evs, t.log = s.log ++ evs ∧ evs.length ≤ 1) ∧
    t.params = s.params ∧ t.stream = s.stream ∧ t.sched = s.sched ∧ t.turns = s.turns

/-- R27 to R30: only H_SAMPLE writes the cursors, the reading count and the patterns. -/
def Obligations.OnlySampleWritesTheSequencer : Prop :=
  ∀ (i : Instr) (s t : State), exec i s = .next t → i ≠ .hSample →
    t.cur = s.cur ∧ t.nxt = s.nxt ∧ t.rc = s.rc ∧ t.acc = s.acc ∧ t.lp = s.lp ∧ t.dacc = s.dacc

/-- R22 to R24, R95: only ENC writes LINES, and only of the encoder it names; only SVC_QED writes HIST and COUNT. -/
def Obligations.OnlyEncAndSvcQedWriteTheEncoders : Prop :=
  ∀ (i : Instr) (s t : State), exec i s = .next t →
    (∀ e, (∀ a b, i ≠ .enc e a b) → (t.encoder e).lines = (s.encoder e).lines) ∧
    (i ≠ .svcQed → ∀ e, (t.encoder e).hist = (s.encoder e).hist ∧ (t.encoder e).count = (s.encoder e).count)

/-- R47 for FLT and the go latch. -/
def Obligations.WritersOfFaultCountersDutyAndGoLatch : Prop :=
  ∀ (i : Instr) (s t : State), exec i s = .next t →
    (i ≠ .svcCtrl → i ≠ .hRecover → t.lost = s.lost ∧ t.stop = s.stop) ∧
    (i ≠ .svcCtrl → t.dutyR = s.dutyR ∧ t.dutyL = s.dutyL) ∧
    (i ≠ .svcDbt → i ≠ .hRecover → t.go = s.go) ∧
    (i ≠ .hGoedge → i ≠ .hRecover → t.goPrev = s.goPrev)

/-- R47 for the conversion state. -/
def Obligations.WritersOfConversionState : Prop :=
  ∀ (i : Instr) (s t : State), exec i s = .next t →
    ((∀ v, i ≠ .adc v) → t.sampleReg = s.sampleReg) ∧
    (i ≠ .svcAdc → i ≠ .hSample → i ≠ .hRearm → t.adf = s.adf) ∧
    ((∀ v, i ≠ .adc v) → i ≠ .svcAdc → i ≠ .hRearm → t.convBusy = s.convBusy) ∧
    (i ≠ .svcAdc → i ≠ .hRearm → t.convCh = s.convCh) ∧
    ((∀ v, i ≠ .adc v) → i ≠ .svcAdc → i ≠ .hRearm → t.latch.adc = s.latch.adc)

/-- R47 and R111 for DEB, the enables, the timer latches and SLEEPING. -/
def Obligations.WritersOfDebounceEnablesAndSleep : Prop :=
  ∀ (i : Instr) (s t : State), exec i s = .next t →
    ((∀ l, i ≠ .btn l) → t.btnLine = s.btnLine ∧ t.dbDir = s.dbDir) ∧
    (i ≠ .svcBtn → i ≠ .svcDbt → t.dbState = s.dbState) ∧
    (i ≠ .dbtFire → i ≠ .svcBtn → t.dbtArmed = s.dbtArmed) ∧
    (i ≠ .dbtFire → i ≠ .svcBtn → i ≠ .svcDbt → t.latch.dbt = s.latch.dbt) ∧
    ((∀ m, i ≠ .hSeten m) → ∀ src, src ≠ .btn → t.enabled src = s.enabled src) ∧
    ((∀ m, i ≠ .hSeten m) → i ≠ .svcBtn → i ≠ .svcDbt → t.en = s.en) ∧
    ((∀ l, i ≠ .btn l) → (∀ m, i ≠ .hSeten m) → i ≠ .svcBtn → i ≠ .svcDbt → t.latch.btn = s.latch.btn) ∧
    (i ≠ .tickDisp → i ≠ .svcDisp → t.latch.disp = s.latch.disp) ∧
    (i ≠ .tickCtrl → i ≠ .svcCtrl → t.latch.ctrl = s.latch.ctrl) ∧
    (i ≠ .tickObs → i ≠ .svcObs → t.latch.obs = s.latch.obs) ∧
    (i ≠ .hSleep → (∀ e a b, i ≠ .enc e a b) → (∀ l, i ≠ .btn l) → t.sleeping = s.sleeping)

/-- R111: whatever step changes EN[BTN] leaves PEND[BTN] clear. -/
def Obligations.ChangingTheButtonEnableClearsItsPending : Prop :=
  ∀ (i : Instr) (s t : State), exec i s = .next t → t.enabled .btn ≠ s.enabled .btn → t.pend .btn = false

/-! QED -/

/-- R87: ENC sets the two lines of the encoder it names and nothing else, always enabled; asleep, it ends with the
wake of R165. That an illegal word of this format is refused X1 under the general relation, at the turn of the agent
of its class, is the model's reading (log 7, over the turns of log 3). In states no run reaches, the wake follows the
words of R165 (log 16). -/
def Obligations.EncSetsTheLinesOfItsEncoder : Prop :=
  (∀ (e : Fin 2) (a b : Bool), encode (.enc e a b) =
    some (BitVec.ofNat 16 (0x1000 + 256 * e.val + 2 * a.toNat + b.toNat))) ∧
  (∀ w : Word, w.extractLsb' 12 4 = 0x1 → w &&& 0xFEFC ≠ 0x1000 → RefusedX1 w) ∧
  ∀ (a b : Bool) (s : State),
    (let u := { s with enc0 := { s.enc0 with lines := BitVec.ofBool a ++ BitVec.ofBool b } }
     exec (.enc 0 a b) s =
      .next (if s.sleeping = true ∧ u.quiescent = false then { u with sleeping := false } else u)) ∧
    (let u := { s with enc1 := { s.enc1 with lines := BitVec.ofBool a ++ BitVec.ofBool b } }
     exec (.enc 1 a b) s =
      .next (if s.sleeping = true ∧ u.quiescent = false then { u with sleeping := false } else u))

/-- R89: SVC_QED updates exactly the encoders whose lines differ from HIST[1:0], and leaves everything else, the other
latches among them, as it was. -/
def Obligations.SvcQedUpdatesTheChangedEncoders : Prop :=
  encode .svcQed = none ∧
  ∀ s : State, s.nextService = some .qed →
    ∃ t, exec .svcQed s = .next t ∧ t = { s with enc0 := t.enc0, enc1 := t.enc1 } ∧ t.pend .qed = false ∧
      ∀ e,
        ((s.encoder e).lines ≠ (s.encoder e).hist.extractLsb' 0 2 →
          (t.encoder e).lines = (s.encoder e).lines ∧
          (t.encoder e).hist = (s.encoder e).hist.extractLsb' 0 2 ++ (s.encoder e).lines ∧
          (t.encoder e).count.toInt =
            ((s.encoder e).count.toInt
              + qtabAt s.params ((s.encoder e).hist.extractLsb' 0 2 ++ (s.encoder e).lines)).bmod (2 ^ 16)) ∧
        ((s.encoder e).lines = (s.encoder e).hist.extractLsb' 0 2 → t.encoder e = s.encoder e)

/-- R88, R90, R92, with the default QTAB: a forward change counts +1, a reverse change -1, a change of both lines 0,
and HIST takes the new state in every case. -/
def Obligations.QuadratureCountsByDirection : Prop :=
  ∀ (s t : State) (e : Fin 2) (prev : BitVec 2), s.params.qtab = qtabDefault → exec .svcQed s = .next t →
    (s.encoder e).hist.extractLsb' 0 2 = prev →
    ((s.encoder e).lines = forwardStep prev → (t.encoder e).count = (s.encoder e).count + 1) ∧
    ((s.encoder e).lines = reverseStep prev → (t.encoder e).count = (s.encoder e).count - 1) ∧
    ((s.encoder e).lines = ~~~prev → (t.encoder e).count = (s.encoder e).count) ∧
    ((s.encoder e).lines ≠ prev → (t.encoder e).hist = prev ++ (s.encoder e).lines)

/-- R91: from state 00, four serviced changes forward give the histories 0001, 0111, 1110, 1000 and one tick each; the
reverse cycle gives 0010, 1011, 1101, 0100 and minus one each; the other encoder is untouched. R91 is the spec's own
inference. -/
def Obligations.CleanCyclesCountFourEachWay : Prop :=
  ∀ (s : State) (e : Fin 2), s.params.qtab = qtabDefault → s.sleeping = false → s.quiescent = true →
    s.enabled .qed = true → (s.encoder e).lines = 0b00 →
    (∀ n h, (n, h) ∈ [(1, 0b0001#4), (2, 0b0111#4), (3, 0b1110#4), (4, 0b1000#4)] →
      ∃ t, execAll (([encoderCycle e false true, encoderCycle e true true, encoderCycle e true false,
          encoderCycle e false false].take n).flatten) s = .next t ∧
        (t.encoder e).hist = h ∧ (t.encoder e).count = (s.encoder e).count + BitVec.ofNat 16 n ∧
        ∀ e', e' ≠ e → t.encoder e' = s.encoder e') ∧
    (∀ n h, (n, h) ∈ [(1, 0b0010#4), (2, 0b1011#4), (3, 0b1101#4), (4, 0b0100#4)] →
      ∃ t, execAll (([encoderCycle e true false, encoderCycle e true true, encoderCycle e false true,
          encoderCycle e false false].take n).flatten) s = .next t ∧
        (t.encoder e).hist = h ∧ (t.encoder e).count = (s.encoder e).count - BitVec.ofNat 16 n ∧
        ∀ e', e' ≠ e → t.encoder e' = s.encoder e')

/-! SEQ -/

/-- R96: ADC is refused X5 asleep, then X3 with no conversion in flight; otherwise it stores the result, ends the
conversion and sets PEND[ADC]. -/
def Obligations.AdcStoresTheResultOfAConversionInFlight : Prop :=
  (∀ v : BitVec 12, encode (.adc v) = some (0x3000#16 ||| v.zeroExtend 16)) ∧
  ∀ (v : BitVec 12) (s : State),
    (s.sleeping = true → exec (.adc v) s = .refused .clockHalted) ∧
    (s.sleeping = false → s.convBusy = false → exec (.adc v) s = .refused .noConversion) ∧
    (s.sleeping = false → s.convBusy = true → exec (.adc v) s =
      .next { s with sampleReg := v, convBusy := false, latch := { s.latch with adc := true } })

/-- R97, R151: SVC_ADC flags the sample and starts the next conversion on CH[NXT]. -/
def Obligations.SvcAdcFlagsAndRestarts : Prop :=
  encode .svcAdc = none ∧
  ∀ s : State, s.nextService = some .adc → exec .svcAdc s =
    .next { s with
      adf := true, convBusy := true, convCh := s.params.sensors[s.nxt].ch
      log := s.log ++ [.conv s.params.sensors[s.nxt].ch], latch := { s.latch with adc := false } }

/-- R98 to R101: without a flagged sample H_SAMPLE has no effect; a sample after the pre-advance adopts NXT, publishes
at HEAD, and is the settling sample; and H_SAMPLE holds unless awake and quiescent. That a step not enabled answers
the fault held is the model's choice (log 6). That an illegal word of this format is refused X1 under the general
relation, at the turn of the agent of its class, is the model's reading (log 7, over the turns of log 3). What RC does
at 2 or 3 with NXT = CUR, where no run comes, is log 8 and not stated. -/
def Obligations.SampleAdoptsPublishesAndSettles : Prop :=
  encode .hSample = some 0x8000 ∧
  (∀ w : Word, w.extractLsb' 12 4 = 0x8 → w ≠ 0x8000 → RefusedX1 w) ∧
  ∀ s : State,
    (s.hostEnabled = false → exec .hSample s = .fault .held) ∧
    (s.hostEnabled = true → s.adf = false → exec .hSample s = .next s) ∧
    (s.hostEnabled = true → s.adf = true → s.nxt ≠ s.cur → exec .hSample s =
      .next { s with
        adf := false, cur := s.nxt, rc := 1
        lp := if s.nxt = s.params.head then s.acc else s.lp
        acc := if s.nxt = s.params.head then 0 else s.acc }) ∧
    (s.hostEnabled = true → s.adf = true → s.nxt = s.cur → s.rc = 0 → exec .hSample s =
      .next { s with adf := false, rc := 1 })

/-- R101 to R103: the second sample of a sensor is binarised against 3500 and written to its own bit of ACC and of
DACC, every other bit as before, and NXT is pre-advanced. -/
def Obligations.SampleMeasuresTheSecondReading : Prop :=
  ∀ s : State, s.hostEnabled = true → s.adf = true → s.nxt = s.cur → s.rc = 1 →
    ∃ t, exec .hSample s = .next t ∧
      t = { s with adf := false, rc := 2, acc := t.acc, dacc := t.dacc, nxt := s.params.sensors[s.cur].succ } ∧
      (∀ j < 3, t.acc.getLsbD j =
        if j = s.params.sensors[s.cur].lbit.val then decide (s.sampleReg.toNat ≥ 3500) else s.acc.getLsbD j) ∧
      (∀ j < 3, t.dacc.getLsbD j =
        if j = s.params.sensors[s.cur].dbit.val then decide (s.sampleReg.toNat ≥ 3500) else s.dacc.getLsbD j)

/-- R104: H_REARM discards a flagged sample and an unserviced completion and starts a conversion on CH[NXT]. That a
step not enabled answers the fault held is the model's choice (log 6). That an illegal word of this format is refused
X1 under the general relation, at the turn of the agent of its class, is the model's reading (log 7, over the turns of
log 3). -/
def Obligations.RearmStartsAFreshConversion : Prop :=
  encode .hRearm = some 0xC000 ∧
  (∀ w : Word, w.extractLsb' 12 4 = 0xC → w ≠ 0xC000 → RefusedX1 w) ∧
  ∀ s : State,
    (s.hostEnabled = false → exec .hRearm s = .fault .held) ∧
    (s.hostEnabled = true → exec .hRearm s =
      .next { s with
        adf := false, convBusy := true, convCh := s.params.sensors[s.nxt].ch
        log := s.log ++ [.conv s.params.sensors[s.nxt].ch], latch := { s.latch with adc := false } })

/-- R65, R100: LP changes only in an H_SAMPLE that adopts HEAD, by one write of the whole accumulator, which starts
fresh. R65 is the spec's own inference. -/
def Obligations.LinePatternChangesOnlyByAPublishAtTheHead : Prop :=
  ∀ (i : Instr) (s t : State), exec i s = .next t → t.lp ≠ s.lp →
    i = .hSample ∧ t.lp = s.acc ∧ t.acc = 0 ∧ t.cur = s.params.head ∧ s.cur ≠ s.params.head ∧ t.rc = 1

/-- R108, R105: over six processed samples of one round, the LP published at the start of the next round has bit
LBIT[i] equal to the binarised second sample of sensor i, whatever the ring's order. R108 is the spec's own inference. -/
def Obligations.RoundPublishesTheSecondSampleOfEachSensor : Prop :=
  ∀ (s : State) (x0 y0 x1 y1 x2 y2 z : BitVec 12),
    s.params.WellFormed → s.sleeping = false → s.quiescent = true → s.enabled .adc = true → s.convBusy = true →
    s.nxt = s.params.head → (s.cur = s.params.head ∧ s.rc = 0) ∨ s.cur ≠ s.params.head →
    ∃ t, execAll (sampleCycle x0 ++ sampleCycle y0 ++ sampleCycle x1 ++ sampleCycle y1 ++ sampleCycle x2
        ++ sampleCycle y2 ++ sampleCycle z) s = .next t ∧
      t.lp.getLsbD (s.params.sensors[s.params.head].lbit.val) = decide (y0.toNat ≥ 3500) ∧
      t.lp.getLsbD (s.params.sensors[s.params.succ s.params.head].lbit.val) = decide (y1.toNat ≥ 3500) ∧
      t.lp.getLsbD (s.params.sensors[s.params.succ (s.params.succ s.params.head)].lbit.val) =
        decide (y2.toNat ≥ 3500) ∧
      t.cur = s.params.head ∧ t.nxt = s.params.head ∧ t.rc = 1

/-! DEB -/

/-- R109: BTN writes the line, and latches an edge with its direction exactly when EN[BTN] = 1 and PEND[BTN] = 0;
asleep, it ends with the wake of R165. That an illegal word of this format is refused X1 under the general relation,
at the turn of the agent of its class, is the model's reading (log 7, over the turns of log 3). In states no run
reaches, the wake follows the words of R165 (log 16). -/
def Obligations.BtnLatchesAnEdgeOnlyWhenArmed : Prop :=
  (∀ l : Bool, encode (.btn l) = some (BitVec.ofNat 16 (0x2000 + l.toNat))) ∧
  (∀ w : Word, w.extractLsb' 12 4 = 0x2 → w &&& 0xFFFE ≠ 0x2000 → RefusedX1 w) ∧
  ∀ (l : Bool) (s : State),
    let u :=
      if s.enabled .btn = true ∧ s.pend .btn = false ∧ l ≠ s.btnLine then
        { s with btnLine := l, dbDir := l, latch := { s.latch with btn := true } }
      else { s with btnLine := l }
    exec (.btn l) s =
      .next (if s.sleeping = true ∧ u.quiescent = false then { u with sleeping := false } else u)

/-- R110: DBT_FIRE is refused X5 asleep, then X4 when not armed; otherwise the one-shot stops and PEND[DBT] is set.
That an illegal word of this format is refused X1 under the general relation, at the turn of the agent of its class,
is the model's reading (log 7, over the turns of log 3). -/
def Obligations.DbtFireNeedsAnArmedOneShot : Prop :=
  encode .dbtFire = some 0x4003 ∧
  (∀ w : Word, w.extractLsb' 12 4 = 0x4 → w.extractLsb' 0 3 = 3 → w ≠ 0x4003 → RefusedX1 w) ∧
  ∀ s : State,
    (s.sleeping = true → exec .dbtFire s = .refused .clockHalted) ∧
    (s.sleeping = false → s.dbtArmed = false → exec .dbtFire s = .refused .notArmed) ∧
    (s.sleeping = false → s.dbtArmed = true → exec .dbtFire s =
      .next { s with dbtArmed := false, latch := { s.latch with dbt := true } })

/-- R112, R111, R151: SVC_BTN arms the debouncer, closes the edge detector and cancels an earlier timeout. -/
def Obligations.SvcBtnArmsTheDebouncer : Prop :=
  encode .svcBtn = none ∧
  ∀ s : State, s.nextService = some .btn → exec .svcBtn s =
    .next { s with
      dbState := .debouncing, dbtArmed := true, en := s.en &&& 0b1111101
      latch := { s.latch with btn := false, dbt := false } }

/-- R113, R114, R111: SVC_DBT inverts GO exactly when the sample confirms, returns to idle and reopens the edge
detector; with DB_STATE = 0 it does nothing beyond its dispatch. -/
def Obligations.SvcDbtConfirmsOrDiscards : Prop :=
  encode .svcDbt = none ∧
  ∀ s : State, s.nextService = some .dbt →
    (s.dbState = .debouncing → exec .svcDbt s =
      .next { s with
        go := if s.btnLine = s.dbDir ∧ (s.params.toggleOn = .both ∨ s.params.toggleOn = .pressOnly s.btnLine)
          then !s.go else s.go
        dbState := .idle, en := s.en ||| 0b0000010
        latch := { s.latch with dbt := false, btn := s.latch.btn && s.enabled .btn } }) ∧
    (s.dbState = .idle → exec .svcDbt s = .next { s with latch := { s.latch with dbt := false } })

/-- R115: H_GOEDGE acts once per go-latch edge. That a step not enabled answers the fault held is the model's choice
(log 6). That an illegal word of this format is refused X1 under the general relation, at the turn of the agent of its
class, is the model's reading (log 7, over the turns of log 3). -/
def Obligations.GoedgeActsOncePerEdge : Prop :=
  encode .hGoedge = some 0x9000 ∧
  (∀ w : Word, w.extractLsb' 12 4 = 0x9 → w ≠ 0x9000 → RefusedX1 w) ∧
  ∀ s : State,
    (s.hostEnabled = false → exec .hGoedge s = .fault .held) ∧
    (s.hostEnabled = true → s.go = s.goPrev → exec .hGoedge s = .next s) ∧
    (s.hostEnabled = true → s.go = true → s.goPrev = false →
      exec .hGoedge s = .next { s with goPrev := true, log := s.log ++ [.start] }) ∧
    (s.hostEnabled = true → s.go = false → s.goPrev = true →
      exec .hGoedge s = .next { s with goPrev := false, log := s.log ++ [.pause] })

/-- R116, with TOGGLE_ON = BOTH: an edge still in place at the fire inverts GO once; an edge reversed before the fire
leaves it. R116 is the spec's own inference. -/
def Obligations.DebounceFlipsOnceOrNotAtAll : Prop :=
  ∀ (s : State) (l : Bool), s.params.toggleOn = .both → s.sleeping = false → s.quiescent = true →
    s.enabled .btn = true → s.enabled .dbt = true → l ≠ s.btnLine →
    (∃ t, execAll [.btn l, .svcBtn, .dbtFire, .svcDbt] s = .next t ∧ t.go = !s.go ∧ t.dbState = .idle
      ∧ t.enabled .btn = true) ∧
    (∃ t, execAll [.btn l, .svcBtn, .btn (!l), .dbtFire, .svcDbt] s = .next t ∧ t.go = s.go ∧ t.dbState = .idle
      ∧ t.enabled .btn = true)

/-! FLT -/

/-- R120, R132, R133: the three periodic ticks set their pending bit, are refused X5 asleep, and merge. That an
illegal word of this format is refused X1 under the general relation, at the turn of the agent of its class, is the
model's reading (log 7, over the turns of log 3). -/
def Obligations.TicksSetTheirPendingBitAndMerge : Prop :=
  (encode .tickObs = some 0x4000 ∧ encode .tickCtrl = some 0x4001 ∧ encode .tickDisp = some 0x4002) ∧
  (∀ w : Word, w.extractLsb' 12 4 = 0x4 → (w.extractLsb' 0 3).toNat < 3 →
    w ≠ 0x4000 → w ≠ 0x4001 → w ≠ 0x4002 → RefusedX1 w) ∧
  ∀ s : State,
    (s.sleeping = true → exec .tickCtrl s = .refused .clockHalted ∧ exec .tickObs s = .refused .clockHalted
      ∧ exec .tickDisp s = .refused .clockHalted) ∧
    (s.sleeping = false →
      exec .tickCtrl s = .next { s with latch := { s.latch with ctrl := true } } ∧
      exec .tickObs s = .next { s with latch := { s.latch with obs := true } } ∧
      exec .tickDisp s = .next { s with latch := { s.latch with disp := true } }) ∧
    (∀ i, i = .tickCtrl ∨ i = .tickObs ∨ i = .tickDisp → ∀ t, exec i s = .next t → exec i t = .next t)

/-- R122, R123: a serviced control period. Gated and paused, it changes nothing beyond the dispatch. Otherwise a
NORMAL pattern applies and emits the table's duty pair and clears both counters; a LOST or STOP pattern raises its own
counter, saturating at 255, and touches neither the other counter nor the duty (R124, R125, R127). -/
def Obligations.ControlPeriodClassifiesAndCounts : Prop :=
  encode .svcCtrl = none ∧
  ∀ s : State, s.nextService = some .ctrl →
    (s.go = false → s.params.ctrlGated = true →
      exec .svcCtrl s = .next { s with latch := { s.latch with ctrl := false } }) ∧
    (s.go = true ∨ s.params.ctrlGated = false →
      (∀ (p : Pattern) (r l : BitVec 8), s.lp = p →
        (p, r, l) ∈ [(0b001#3, 50#8, 0#8), (0b010#3, 25#8, 25#8), (0b011#3, 35#8, 15#8), (0b100#3, 0#8, 50#8),
          (0b110#3, 15#8, 35#8)] →
        exec .svcCtrl s =
          .next { s with
            dutyR := r, dutyL := l, lost := 0, stop := 0, log := s.log ++ [.duty r l]
            latch := { s.latch with ctrl := false } }) ∧
      (s.lp = 0b000 ∨ s.lp = 0b101 → exec .svcCtrl s =
        .next { s with lost := if s.lost = 255 then 255 else s.lost + 1, latch := { s.latch with ctrl := false } }) ∧
      (s.lp = 0b111 → exec .svcCtrl s =
        .next { s with stop := if s.stop = 255 then 255 else s.stop + 1, latch := { s.latch with ctrl := false } }))

/-- R126: H_RECOVER clears GO, GO_PREV and both counters, needing no trip. That a step not enabled answers the fault
held is the model's choice (log 6). That an illegal word of this format is refused X1 under the general relation, at
the turn of the agent of its class, is the model's reading (log 7, over the turns of log 3). -/
def Obligations.RecoverClearsGoAndBothCounters : Prop :=
  encode .hRecover = some 0xA000 ∧
  (∀ w : Word, w.extractLsb' 12 4 = 0xA → w ≠ 0xA000 → RefusedX1 w) ∧
  ∀ s : State,
    (s.hostEnabled = false → exec .hRecover s = .fault .held) ∧
    (s.hostEnabled = true → exec .hRecover s = .next { s with go := false, goPrev := false, lost := 0, stop := 0 })

/-- R129, R124: with GO = 1 and every period of one fault kind, from a clear counter, the counter after n serviced
periods is n, at most 255, and the trip holds exactly from the 11th on. R129 is the spec's own inference. -/
def Obligations.EleventhFaultPeriodTrips : Prop :=
  ∀ (s : State) (n : Nat), s.sleeping = false → s.quiescent = true → s.enabled .ctrl = true → s.go = true →
    (s.lp = 0b000 ∨ s.lp = 0b101 → s.lost = 0 →
      ∃ t, execAll ((List.replicate n controlPeriodCycle).flatten) s = .next t ∧ t.lost.toNat = min n 255 ∧
        (t.tripLost = true ↔ 11 ≤ n) ∧ t.stop = s.stop) ∧
    (s.lp = 0b111 → s.stop = 0 →
      ∃ t, execAll ((List.replicate n controlPeriodCycle).flatten) s = .next t ∧ t.stop.toNat = min n 255 ∧
        (t.tripStop = true ↔ 11 ≤ n) ∧ t.lost = s.lost)

/-! DSP -/

/-- R134, R135, R151: SVC_OBS only clears its latch; SVC_DISP emits the live display pattern. -/
def Obligations.DisplayAndObservationServices : Prop :=
  (encode .svcObs = none ∧ encode .svcDisp = none) ∧
  ∀ s : State,
    (s.nextService = some .obs → exec .svcObs s = .next { s with latch := { s.latch with obs := false } }) ∧
    (s.nextService = some .disp → exec .svcDisp s =
      .next { s with log := s.log ++ [.disp s.dacc], latch := { s.latch with disp := false } })

/-- R136, R150: SYNC is enabled exactly at quiescence, asleep or not, and has no effect on the block's state. That a
step not enabled answers the fault held is the model's choice (log 6). That SYNC holds also asleep with a source
pending and enabled, where no run comes and R136 and R150 differ, is log 16. That an illegal word of this format is
refused X1 under the general relation, at the turn of the agent of its class, is the model's reading (log 7, over the
turns of log 3). -/
def Obligations.SyncWaitsForQuiescenceAndDoesNothing : Prop :=
  encode .sync = some 0x7000 ∧
  (∀ w : Word, w.extractLsb' 12 4 = 0x7 → w ≠ 0x7000 → RefusedX1 w) ∧
  ∀ s : State, (s.quiescent = true → exec .sync s = .next s) ∧ (s.quiescent = false → exec .sync s = .fault .held)

/-- R137, R54, R56, R63: H_READ of a defined address emits its value and changes nothing else, the same value on a
second read; of a reserved address it is refused X6. That a step not enabled answers the fault held is the model's
choice (log 6). That an illegal word of this format is refused X1 under the general relation, at the turn of the agent
of its class, is the model's reading (log 7, over the turns of log 3). -/
def Obligations.ReadEmitsTheRegisterAndChangesNothing : Prop :=
  (∀ a : RegAddr, encode (.hRead a) = some (0xD000#16 ||| a.zeroExtend 16)) ∧
  (∀ w : Word, w.extractLsb' 12 4 = 0xD → w.extractLsb' 5 7 ≠ 0 → RefusedX1 w) ∧
  ∀ (s : State) (a : RegAddr),
    (s.hostEnabled = false → exec (.hRead a) s = .fault .held) ∧
    (s.hostEnabled = true → a.toNat ≤ 0x0C → ∃ d t, s.regRead a = some d ∧
      exec (.hRead a) s = .next t ∧ t = { s with log := s.log ++ [.read a d] } ∧
      exec (.hRead a) t = .next { s with log := s.log ++ [.read a d, .read a d] }) ∧
    (s.hostEnabled = true → 0x0D ≤ a.toNat → exec (.hRead a) s = .refused .reservedAddress)

/-- R57: the fields of every defined register, unlisted bits 0. That STATUS bit 8 is composed from SLEEPING, where R57
says that it always reads 0, is the model's reading (log 14): no host step finds it set. -/
def Obligations.RegisterMapHoldsTheListedFields : Prop :=
  ∀ s : State, ∃ r2 r3 r4 r5 r6 r7 r8 r9 r10 r11 r12 : Word,
    (s.regRead 0x00 = some s.enc0.count ∧ s.regRead 0x01 = some s.enc1.count ∧ s.regRead 0x02 = some r2 ∧
      s.regRead 0x03 = some r3 ∧ s.regRead 0x04 = some r4 ∧ s.regRead 0x05 = some r5 ∧ s.regRead 0x06 = some r6 ∧
      s.regRead 0x07 = some r7 ∧ s.regRead 0x08 = some r8 ∧ s.regRead 0x09 = some r9 ∧ s.regRead 0x0A = some r10 ∧
      s.regRead 0x0B = some r11 ∧ s.regRead 0x0C = some r12) ∧
    (r2.extractLsb' 0 4 = s.enc0.hist ∧ r2.extractLsb' 4 4 = s.enc1.hist ∧ r2.extractLsb' 8 2 = s.enc0.lines ∧
      r2.extractLsb' 10 2 = s.enc1.lines ∧ r2.extractLsb' 12 4 = 0) ∧
    ((r3.extractLsb' 0 2).toNat = s.cur.val ∧ (r3.extractLsb' 2 2).toNat = s.nxt.val ∧ r3.extractLsb' 4 2 = s.rc ∧
      r3.extractLsb' 6 3 = s.acc ∧ r3.extractLsb' 9 3 = s.dacc ∧ r3.getLsbD 12 = s.adf ∧ r3.getLsbD 13 = s.convBusy ∧
      r3.extractLsb' 14 2 = 0) ∧
    (r4.extractLsb' 0 3 = s.lp ∧ r4.extractLsb' 3 13 = 0) ∧
    (r5.extractLsb' 0 12 = s.sampleReg ∧ r5.extractLsb' 12 4 = 0) ∧
    (r6.extractLsb' 0 8 = s.lost ∧ r6.extractLsb' 8 8 = s.stop) ∧
    (r7.getLsbD 0 = s.tripLost ∧ r7.getLsbD 1 = s.tripStop ∧ r7.getLsbD 2 = s.go ∧ r7.getLsbD 3 = s.goPrev ∧
      (r7.getLsbD 4 = true ↔ s.dbState = .debouncing) ∧ r7.getLsbD 5 = s.dbDir ∧ r7.getLsbD 6 = s.dbtArmed ∧
      r7.getLsbD 7 = s.btnLine ∧ r7.getLsbD 8 = s.sleeping ∧ (s.hostEnabled = true → r7.getLsbD 8 = false) ∧
      r7.extractLsb' 9 7 = 0) ∧
    (r8.getLsbD 0 = s.pend .disp ∧ r8.getLsbD 1 = s.pend .btn ∧ r8.getLsbD 2 = s.pend .adc ∧
      r8.getLsbD 3 = s.pend .qed ∧ r8.getLsbD 4 = s.pend .dbt ∧ r8.getLsbD 5 = s.pend .ctrl ∧
      r8.getLsbD 6 = s.pend .obs ∧ r8.extractLsb' 7 9 = 0) ∧
    (r9.extractLsb' 0 7 = s.en ∧ r9.extractLsb' 7 9 = 0) ∧
    (r10.extractLsb' 0 8 = s.dutyR ∧ r10.extractLsb' 8 8 = s.dutyL) ∧
    (r11.extractLsb' 0 4 = s.convCh ∧ r11.extractLsb' 4 4 = s.params.sensors[s.nxt].ch ∧ r11.extractLsb' 8 8 = 0) ∧
    (r12.extractLsb' 0 4 = s.params.sensors[s.cur].ch ∧
      (r12.extractLsb' 4 2).toNat = s.params.sensors[s.cur].lbit.val ∧
      (r12.extractLsb' 6 2).toNat = s.params.sensors[s.cur].dbit.val ∧ r12.extractLsb' 8 8 = 0)

/-- R139, R164: H_SLEEP emits SLEEP and halts the clock; from then on host words and services hold and timer and ADC
words are refused X5. That a step not enabled answers the fault held is the model's choice (log 6). That an illegal
word of this format is refused X1 under the general relation, at the turn of the agent of its class, is the model's
reading (log 7, over the turns of log 3). -/
def Obligations.SleepHaltsServicesHostAndTimers : Prop :=
  encode .hSleep = some 0xB000 ∧
  (∀ w : Word, w.extractLsb' 12 4 = 0xB → w ≠ 0xB000 → RefusedX1 w) ∧
  ∀ s : State,
    (s.hostEnabled = false → exec .hSleep s = .fault .held) ∧
    (s.hostEnabled = true → exec .hSleep s = .next { s with log := s.log ++ [.sleep], sleeping := true }) ∧
    (s.sleeping = true → ∀ i : Instr,
      (i.role = .host → exec i s = .fault .held) ∧
      (∀ src, i.role = .service src → exec i s = .fault .held) ∧
      (i = .tickObs ∨ i = .tickCtrl ∨ i = .tickDisp ∨ i = .dbtFire ∨ (∃ v, i = .adc v) →
        exec i s = .refused .clockHalted) ∧
      ((∃ e a b, i = .enc e a b) ∨ (∃ l, i = .btn l) → ∃ t, exec i s = .next t))

/-- R140, R111: H_SETEN replaces EN and clears PEND[BTN] exactly when EN[BTN] changes. That a step not enabled answers
the fault held is the model's choice (log 6). That an illegal word of this format is refused X1 under the general
relation, at the turn of the agent of its class, is the model's reading (log 7, over the turns of log 3). -/
def Obligations.SetenReplacesTheEnables : Prop :=
  (∀ m : BitVec 7, encode (.hSeten m) = some (0xE000#16 ||| m.zeroExtend 16)) ∧
  (∀ w : Word, w.extractLsb' 12 4 = 0xE → w.extractLsb' 7 5 ≠ 0 → RefusedX1 w) ∧
  ∀ (s : State) (m : BitVec 7),
    (s.hostEnabled = false → exec (.hSeten m) s = .fault .held) ∧
    (s.hostEnabled = true → s.en.getLsbD 1 = m.getLsbD 1 → exec (.hSeten m) s = .next { s with en := m }) ∧
    (s.hostEnabled = true → s.en.getLsbD 1 ≠ m.getLsbD 1 →
      exec (.hSeten m) s = .next { s with en := m, latch := { s.latch with btn := false } })

/-- R157, R148: the selected source is the serviceable one with the lowest id; R149, R152: so no service of a LOW
source is taken while a HIGH source is serviceable. R157 is the spec's own inference. That a step not enabled answers
the fault held is the model's choice (log 6). -/
def Obligations.SelectedSourceHasTheLowestId : Prop :=
  (∀ (s : State) (src : Source), s.nextService = some src ↔
    (s.pend src = true ∧ s.enabled src = true ∧ s.sleeping = false) ∧
    ∀ src', s.pend src' = true → s.enabled src' = true → sourceId src ≤ sourceId src') ∧
  (∀ (s : State) (hi lo : Source), sourceLevel hi = .high → sourceLevel lo = .low → s.serviceable hi = true →
    exec lo.service s = .fault .held)

/-- R153, R158: with no word left, at most seven dispatch steps drain an awake block to quiescence. The bound is
inferred from them; an idle step leaves the state as it is (log 4). -/
def Obligations.SevenStepsDrainTheBlock : Prop :=
  ∀ s : State, s.sleeping = false → s.stream = [] →
    ∃ t : State, Sys2Proof.core.run 7 s = .next t ∧ t.quiescent = true ∧ t.sleeping = false ∧ t.stream = []

/-- R165, R166: a step taken asleep wakes the block exactly if it leaves a source pending and enabled, and only ENC
and BTN can; a conversion in flight and an armed one-shot survive. In states no run reaches, the wake follows the
words of R165 (log 16). -/
def Obligations.OnlyEncAndBtnWakeTheBlock : Prop :=
  ∀ (i : Instr) (s t : State), s.sleeping = true → exec i s = .next t →
    (t.sleeping = false ↔ ∃ src, t.pend src = true ∧ t.enabled src = true) ∧
    (t.sleeping = false → (∃ e a b, i = .enc e a b) ∨ ∃ l, i = .btn l) ∧
    t.convBusy = s.convBusy ∧ t.dbtArmed = s.dbtArmed ∧ t.dbState = s.dbState ∧ t.log = s.log

/-- R185: asleep with EN[BTN] = 0 and EN[QED] = 0, no step of a run wakes the block or changes its enables. R185 is
the spec's own inference. -/
def Obligations.SleepWithNoWakeSourceNeverEnds : Prop :=
  ∀ s t : State, s.sleeping = true → s.SleepQuiet → s.enabled .btn = false → s.enabled .qed = false →
    step s = .next t → t.sleeping = true ∧ t.SleepQuiet ∧ t.en = s.en
end

