-- ==== Sys2Proof/Laws/State.lean ====
section
/-! SUPPORT. One lemma per field per named update of State, each true by unfolding the update once: no later proof
unfolds a record update. -/

namespace Sys2Proof.Machine

open Sys2Proof.Config

@[simp] theorem State.emit_enc0 (s : State) (ev : Out) : (s.emit ev).enc0 = s.enc0 := rfl
@[simp] theorem State.emit_enc1 (s : State) (ev : Out) : (s.emit ev).enc1 = s.enc1 := rfl
@[simp] theorem State.emit_cur (s : State) (ev : Out) : (s.emit ev).cur = s.cur := rfl
@[simp] theorem State.emit_nxt (s : State) (ev : Out) : (s.emit ev).nxt = s.nxt := rfl
@[simp] theorem State.emit_rc (s : State) (ev : Out) : (s.emit ev).rc = s.rc := rfl
@[simp] theorem State.emit_acc (s : State) (ev : Out) : (s.emit ev).acc = s.acc := rfl
@[simp] theorem State.emit_lp (s : State) (ev : Out) : (s.emit ev).lp = s.lp := rfl
@[simp] theorem State.emit_dacc (s : State) (ev : Out) : (s.emit ev).dacc = s.dacc := rfl
@[simp] theorem State.emit_sampleReg (s : State) (ev : Out) : (s.emit ev).sampleReg = s.sampleReg := rfl
@[simp] theorem State.emit_adf (s : State) (ev : Out) : (s.emit ev).adf = s.adf := rfl
@[simp] theorem State.emit_convBusy (s : State) (ev : Out) : (s.emit ev).convBusy = s.convBusy := rfl
@[simp] theorem State.emit_convCh (s : State) (ev : Out) : (s.emit ev).convCh = s.convCh := rfl
@[simp] theorem State.emit_lost (s : State) (ev : Out) : (s.emit ev).lost = s.lost := rfl
@[simp] theorem State.emit_stop (s : State) (ev : Out) : (s.emit ev).stop = s.stop := rfl
@[simp] theorem State.emit_dutyR (s : State) (ev : Out) : (s.emit ev).dutyR = s.dutyR := rfl
@[simp] theorem State.emit_dutyL (s : State) (ev : Out) : (s.emit ev).dutyL = s.dutyL := rfl
@[simp] theorem State.emit_btnLine (s : State) (ev : Out) : (s.emit ev).btnLine = s.btnLine := rfl
@[simp] theorem State.emit_dbState (s : State) (ev : Out) : (s.emit ev).dbState = s.dbState := rfl
@[simp] theorem State.emit_dbDir (s : State) (ev : Out) : (s.emit ev).dbDir = s.dbDir := rfl
@[simp] theorem State.emit_dbtArmed (s : State) (ev : Out) : (s.emit ev).dbtArmed = s.dbtArmed := rfl
@[simp] theorem State.emit_go (s : State) (ev : Out) : (s.emit ev).go = s.go := rfl
@[simp] theorem State.emit_goPrev (s : State) (ev : Out) : (s.emit ev).goPrev = s.goPrev := rfl
@[simp] theorem State.emit_latch (s : State) (ev : Out) : (s.emit ev).latch = s.latch := rfl
@[simp] theorem State.emit_en (s : State) (ev : Out) : (s.emit ev).en = s.en := rfl
@[simp] theorem State.emit_sleeping (s : State) (ev : Out) : (s.emit ev).sleeping = s.sleeping := rfl
@[simp] theorem State.emit_log (s : State) (ev : Out) : (s.emit ev).log = s.log ++ [ev] := rfl
@[simp] theorem State.emit_params (s : State) (ev : Out) : (s.emit ev).params = s.params := rfl
@[simp] theorem State.emit_stream (s : State) (ev : Out) : (s.emit ev).stream = s.stream := rfl
@[simp] theorem State.emit_sched (s : State) (ev : Out) : (s.emit ev).sched = s.sched := rfl
@[simp] theorem State.emit_turns (s : State) (ev : Out) : (s.emit ev).turns = s.turns := rfl

@[simp] theorem State.setPend_enc0 (s : State) (src : Source) (b : Bool) : (s.setPend src b).enc0 = s.enc0 := rfl
@[simp] theorem State.setPend_enc1 (s : State) (src : Source) (b : Bool) : (s.setPend src b).enc1 = s.enc1 := rfl
@[simp] theorem State.setPend_cur (s : State) (src : Source) (b : Bool) : (s.setPend src b).cur = s.cur := rfl
@[simp] theorem State.setPend_nxt (s : State) (src : Source) (b : Bool) : (s.setPend src b).nxt = s.nxt := rfl
@[simp] theorem State.setPend_rc (s : State) (src : Source) (b : Bool) : (s.setPend src b).rc = s.rc := rfl
@[simp] theorem State.setPend_acc (s : State) (src : Source) (b : Bool) : (s.setPend src b).acc = s.acc := rfl
@[simp] theorem State.setPend_lp (s : State) (src : Source) (b : Bool) : (s.setPend src b).lp = s.lp := rfl
@[simp] theorem State.setPend_dacc (s : State) (src : Source) (b : Bool) : (s.setPend src b).dacc = s.dacc := rfl
@[simp] theorem State.setPend_sampleReg (s : State) (src : Source) (b : Bool) : (s.setPend src b).sampleReg = s.sampleReg := rfl
@[simp] theorem State.setPend_adf (s : State) (src : Source) (b : Bool) : (s.setPend src b).adf = s.adf := rfl
@[simp] theorem State.setPend_convBusy (s : State) (src : Source) (b : Bool) : (s.setPend src b).convBusy = s.convBusy := rfl
@[simp] theorem State.setPend_convCh (s : State) (src : Source) (b : Bool) : (s.setPend src b).convCh = s.convCh := rfl
@[simp] theorem State.setPend_lost (s : State) (src : Source) (b : Bool) : (s.setPend src b).lost = s.lost := rfl
@[simp] theorem State.setPend_stop (s : State) (src : Source) (b : Bool) : (s.setPend src b).stop = s.stop := rfl
@[simp] theorem State.setPend_dutyR (s : State) (src : Source) (b : Bool) : (s.setPend src b).dutyR = s.dutyR := rfl
@[simp] theorem State.setPend_dutyL (s : State) (src : Source) (b : Bool) : (s.setPend src b).dutyL = s.dutyL := rfl
@[simp] theorem State.setPend_btnLine (s : State) (src : Source) (b : Bool) : (s.setPend src b).btnLine = s.btnLine := rfl
@[simp] theorem State.setPend_dbState (s : State) (src : Source) (b : Bool) : (s.setPend src b).dbState = s.dbState := rfl
@[simp] theorem State.setPend_dbDir (s : State) (src : Source) (b : Bool) : (s.setPend src b).dbDir = s.dbDir := rfl
@[simp] theorem State.setPend_dbtArmed (s : State) (src : Source) (b : Bool) : (s.setPend src b).dbtArmed = s.dbtArmed := rfl
@[simp] theorem State.setPend_go (s : State) (src : Source) (b : Bool) : (s.setPend src b).go = s.go := rfl
@[simp] theorem State.setPend_goPrev (s : State) (src : Source) (b : Bool) : (s.setPend src b).goPrev = s.goPrev := rfl
@[simp] theorem State.setPend_latch (s : State) (src : Source) (b : Bool) : (s.setPend src b).latch = s.latch.set src b := rfl
@[simp] theorem State.setPend_en (s : State) (src : Source) (b : Bool) : (s.setPend src b).en = s.en := rfl
@[simp] theorem State.setPend_sleeping (s : State) (src : Source) (b : Bool) : (s.setPend src b).sleeping = s.sleeping := rfl
@[simp] theorem State.setPend_log (s : State) (src : Source) (b : Bool) : (s.setPend src b).log = s.log := rfl
@[simp] theorem State.setPend_params (s : State) (src : Source) (b : Bool) : (s.setPend src b).params = s.params := rfl
@[simp] theorem State.setPend_stream (s : State) (src : Source) (b : Bool) : (s.setPend src b).stream = s.stream := rfl
@[simp] theorem State.setPend_sched (s : State) (src : Source) (b : Bool) : (s.setPend src b).sched = s.sched := rfl
@[simp] theorem State.setPend_turns (s : State) (src : Source) (b : Bool) : (s.setPend src b).turns = s.turns := rfl

@[simp] theorem State.writeEn_enc0 (s : State) (m : BitVec 7) : (s.writeEn m).enc0 = s.enc0 := rfl
@[simp] theorem State.writeEn_enc1 (s : State) (m : BitVec 7) : (s.writeEn m).enc1 = s.enc1 := rfl
@[simp] theorem State.writeEn_cur (s : State) (m : BitVec 7) : (s.writeEn m).cur = s.cur := rfl
@[simp] theorem State.writeEn_nxt (s : State) (m : BitVec 7) : (s.writeEn m).nxt = s.nxt := rfl
@[simp] theorem State.writeEn_rc (s : State) (m : BitVec 7) : (s.writeEn m).rc = s.rc := rfl
@[simp] theorem State.writeEn_acc (s : State) (m : BitVec 7) : (s.writeEn m).acc = s.acc := rfl
@[simp] theorem State.writeEn_lp (s : State) (m : BitVec 7) : (s.writeEn m).lp = s.lp := rfl
@[simp] theorem State.writeEn_dacc (s : State) (m : BitVec 7) : (s.writeEn m).dacc = s.dacc := rfl
@[simp] theorem State.writeEn_sampleReg (s : State) (m : BitVec 7) : (s.writeEn m).sampleReg = s.sampleReg := rfl
@[simp] theorem State.writeEn_adf (s : State) (m : BitVec 7) : (s.writeEn m).adf = s.adf := rfl
@[simp] theorem State.writeEn_convBusy (s : State) (m : BitVec 7) : (s.writeEn m).convBusy = s.convBusy := rfl
@[simp] theorem State.writeEn_convCh (s : State) (m : BitVec 7) : (s.writeEn m).convCh = s.convCh := rfl
@[simp] theorem State.writeEn_lost (s : State) (m : BitVec 7) : (s.writeEn m).lost = s.lost := rfl
@[simp] theorem State.writeEn_stop (s : State) (m : BitVec 7) : (s.writeEn m).stop = s.stop := rfl
@[simp] theorem State.writeEn_dutyR (s : State) (m : BitVec 7) : (s.writeEn m).dutyR = s.dutyR := rfl
@[simp] theorem State.writeEn_dutyL (s : State) (m : BitVec 7) : (s.writeEn m).dutyL = s.dutyL := rfl
@[simp] theorem State.writeEn_btnLine (s : State) (m : BitVec 7) : (s.writeEn m).btnLine = s.btnLine := rfl
@[simp] theorem State.writeEn_dbState (s : State) (m : BitVec 7) : (s.writeEn m).dbState = s.dbState := rfl
@[simp] theorem State.writeEn_dbDir (s : State) (m : BitVec 7) : (s.writeEn m).dbDir = s.dbDir := rfl
@[simp] theorem State.writeEn_dbtArmed (s : State) (m : BitVec 7) : (s.writeEn m).dbtArmed = s.dbtArmed := rfl
@[simp] theorem State.writeEn_go (s : State) (m : BitVec 7) : (s.writeEn m).go = s.go := rfl
@[simp] theorem State.writeEn_goPrev (s : State) (m : BitVec 7) : (s.writeEn m).goPrev = s.goPrev := rfl
@[simp] theorem State.writeEn_latch (s : State) (m : BitVec 7) : (s.writeEn m).latch = if s.en.getLsbD (sourceId .btn) = m.getLsbD (sourceId .btn) then s.latch else s.latch.set .btn false := rfl
@[simp] theorem State.writeEn_en (s : State) (m : BitVec 7) : (s.writeEn m).en = m := rfl
@[simp] theorem State.writeEn_sleeping (s : State) (m : BitVec 7) : (s.writeEn m).sleeping = s.sleeping := rfl
@[simp] theorem State.writeEn_log (s : State) (m : BitVec 7) : (s.writeEn m).log = s.log := rfl
@[simp] theorem State.writeEn_params (s : State) (m : BitVec 7) : (s.writeEn m).params = s.params := rfl
@[simp] theorem State.writeEn_stream (s : State) (m : BitVec 7) : (s.writeEn m).stream = s.stream := rfl
@[simp] theorem State.writeEn_sched (s : State) (m : BitVec 7) : (s.writeEn m).sched = s.sched := rfl
@[simp] theorem State.writeEn_turns (s : State) (m : BitVec 7) : (s.writeEn m).turns = s.turns := rfl

@[simp] theorem State.writeEnBtn_enc0 (s : State) (b : Bool) : (s.writeEnBtn b).enc0 = s.enc0 := rfl
@[simp] theorem State.writeEnBtn_enc1 (s : State) (b : Bool) : (s.writeEnBtn b).enc1 = s.enc1 := rfl
@[simp] theorem State.writeEnBtn_cur (s : State) (b : Bool) : (s.writeEnBtn b).cur = s.cur := rfl
@[simp] theorem State.writeEnBtn_nxt (s : State) (b : Bool) : (s.writeEnBtn b).nxt = s.nxt := rfl
@[simp] theorem State.writeEnBtn_rc (s : State) (b : Bool) : (s.writeEnBtn b).rc = s.rc := rfl
@[simp] theorem State.writeEnBtn_acc (s : State) (b : Bool) : (s.writeEnBtn b).acc = s.acc := rfl
@[simp] theorem State.writeEnBtn_lp (s : State) (b : Bool) : (s.writeEnBtn b).lp = s.lp := rfl
@[simp] theorem State.writeEnBtn_dacc (s : State) (b : Bool) : (s.writeEnBtn b).dacc = s.dacc := rfl
@[simp] theorem State.writeEnBtn_sampleReg (s : State) (b : Bool) : (s.writeEnBtn b).sampleReg = s.sampleReg := rfl
@[simp] theorem State.writeEnBtn_adf (s : State) (b : Bool) : (s.writeEnBtn b).adf = s.adf := rfl
@[simp] theorem State.writeEnBtn_convBusy (s : State) (b : Bool) : (s.writeEnBtn b).convBusy = s.convBusy := rfl
@[simp] theorem State.writeEnBtn_convCh (s : State) (b : Bool) : (s.writeEnBtn b).convCh = s.convCh := rfl
@[simp] theorem State.writeEnBtn_lost (s : State) (b : Bool) : (s.writeEnBtn b).lost = s.lost := rfl
@[simp] theorem State.writeEnBtn_stop (s : State) (b : Bool) : (s.writeEnBtn b).stop = s.stop := rfl
@[simp] theorem State.writeEnBtn_dutyR (s : State) (b : Bool) : (s.writeEnBtn b).dutyR = s.dutyR := rfl
@[simp] theorem State.writeEnBtn_dutyL (s : State) (b : Bool) : (s.writeEnBtn b).dutyL = s.dutyL := rfl
@[simp] theorem State.writeEnBtn_btnLine (s : State) (b : Bool) : (s.writeEnBtn b).btnLine = s.btnLine := rfl
@[simp] theorem State.writeEnBtn_dbState (s : State) (b : Bool) : (s.writeEnBtn b).dbState = s.dbState := rfl
@[simp] theorem State.writeEnBtn_dbDir (s : State) (b : Bool) : (s.writeEnBtn b).dbDir = s.dbDir := rfl
@[simp] theorem State.writeEnBtn_dbtArmed (s : State) (b : Bool) : (s.writeEnBtn b).dbtArmed = s.dbtArmed := rfl
@[simp] theorem State.writeEnBtn_go (s : State) (b : Bool) : (s.writeEnBtn b).go = s.go := rfl
@[simp] theorem State.writeEnBtn_goPrev (s : State) (b : Bool) : (s.writeEnBtn b).goPrev = s.goPrev := rfl
@[simp] theorem State.writeEnBtn_en (s : State) (b : Bool) : (s.writeEnBtn b).en = setBit s.en (sourceId .btn) b := rfl
@[simp] theorem State.writeEnBtn_sleeping (s : State) (b : Bool) : (s.writeEnBtn b).sleeping = s.sleeping := rfl
@[simp] theorem State.writeEnBtn_log (s : State) (b : Bool) : (s.writeEnBtn b).log = s.log := rfl
@[simp] theorem State.writeEnBtn_params (s : State) (b : Bool) : (s.writeEnBtn b).params = s.params := rfl
@[simp] theorem State.writeEnBtn_stream (s : State) (b : Bool) : (s.writeEnBtn b).stream = s.stream := rfl
@[simp] theorem State.writeEnBtn_sched (s : State) (b : Bool) : (s.writeEnBtn b).sched = s.sched := rfl
@[simp] theorem State.writeEnBtn_turns (s : State) (b : Bool) : (s.writeEnBtn b).turns = s.turns := rfl

@[simp] theorem State.startConversion_enc0 (s : State) : (s.startConversion).enc0 = s.enc0 := rfl
@[simp] theorem State.startConversion_enc1 (s : State) : (s.startConversion).enc1 = s.enc1 := rfl
@[simp] theorem State.startConversion_cur (s : State) : (s.startConversion).cur = s.cur := rfl
@[simp] theorem State.startConversion_nxt (s : State) : (s.startConversion).nxt = s.nxt := rfl
@[simp] theorem State.startConversion_rc (s : State) : (s.startConversion).rc = s.rc := rfl
@[simp] theorem State.startConversion_acc (s : State) : (s.startConversion).acc = s.acc := rfl
@[simp] theorem State.startConversion_lp (s : State) : (s.startConversion).lp = s.lp := rfl
@[simp] theorem State.startConversion_dacc (s : State) : (s.startConversion).dacc = s.dacc := rfl
@[simp] theorem State.startConversion_sampleReg (s : State) : (s.startConversion).sampleReg = s.sampleReg := rfl
@[simp] theorem State.startConversion_adf (s : State) : (s.startConversion).adf = s.adf := rfl
@[simp] theorem State.startConversion_convBusy (s : State) : (s.startConversion).convBusy = true := rfl
@[simp] theorem State.startConversion_convCh (s : State) : (s.startConversion).convCh = s.muxsel := rfl
@[simp] theorem State.startConversion_lost (s : State) : (s.startConversion).lost = s.lost := rfl
@[simp] theorem State.startConversion_stop (s : State) : (s.startConversion).stop = s.stop := rfl
@[simp] theorem State.startConversion_dutyR (s : State) : (s.startConversion).dutyR = s.dutyR := rfl
@[simp] theorem State.startConversion_dutyL (s : State) : (s.startConversion).dutyL = s.dutyL := rfl
@[simp] theorem State.startConversion_btnLine (s : State) : (s.startConversion).btnLine = s.btnLine := rfl
@[simp] theorem State.startConversion_dbState (s : State) : (s.startConversion).dbState = s.dbState := rfl
@[simp] theorem State.startConversion_dbDir (s : State) : (s.startConversion).dbDir = s.dbDir := rfl
@[simp] theorem State.startConversion_dbtArmed (s : State) : (s.startConversion).dbtArmed = s.dbtArmed := rfl
@[simp] theorem State.startConversion_go (s : State) : (s.startConversion).go = s.go := rfl
@[simp] theorem State.startConversion_goPrev (s : State) : (s.startConversion).goPrev = s.goPrev := rfl
@[simp] theorem State.startConversion_latch (s : State) : (s.startConversion).latch = s.latch := rfl
@[simp] theorem State.startConversion_en (s : State) : (s.startConversion).en = s.en := rfl
@[simp] theorem State.startConversion_sleeping (s : State) : (s.startConversion).sleeping = s.sleeping := rfl
@[simp] theorem State.startConversion_log (s : State) : (s.startConversion).log = s.log ++ [.conv s.muxsel] := rfl
@[simp] theorem State.startConversion_params (s : State) : (s.startConversion).params = s.params := rfl
@[simp] theorem State.startConversion_stream (s : State) : (s.startConversion).stream = s.stream := rfl
@[simp] theorem State.startConversion_sched (s : State) : (s.startConversion).sched = s.sched := rfl
@[simp] theorem State.startConversion_turns (s : State) : (s.startConversion).turns = s.turns := rfl

@[simp] theorem State.decodeEdges_enc0 (s : State) : (s.decodeEdges).enc0 = s.enc0.decodeEdge s.params := rfl
@[simp] theorem State.decodeEdges_enc1 (s : State) : (s.decodeEdges).enc1 = s.enc1.decodeEdge s.params := rfl
@[simp] theorem State.decodeEdges_cur (s : State) : (s.decodeEdges).cur = s.cur := rfl
@[simp] theorem State.decodeEdges_nxt (s : State) : (s.decodeEdges).nxt = s.nxt := rfl
@[simp] theorem State.decodeEdges_rc (s : State) : (s.decodeEdges).rc = s.rc := rfl
@[simp] theorem State.decodeEdges_acc (s : State) : (s.decodeEdges).acc = s.acc := rfl
@[simp] theorem State.decodeEdges_lp (s : State) : (s.decodeEdges).lp = s.lp := rfl
@[simp] theorem State.decodeEdges_dacc (s : State) : (s.decodeEdges).dacc = s.dacc := rfl
@[simp] theorem State.decodeEdges_sampleReg (s : State) : (s.decodeEdges).sampleReg = s.sampleReg := rfl
@[simp] theorem State.decodeEdges_adf (s : State) : (s.decodeEdges).adf = s.adf := rfl
@[simp] theorem State.decodeEdges_convBusy (s : State) : (s.decodeEdges).convBusy = s.convBusy := rfl
@[simp] theorem State.decodeEdges_convCh (s : State) : (s.decodeEdges).convCh = s.convCh := rfl
@[simp] theorem State.decodeEdges_lost (s : State) : (s.decodeEdges).lost = s.lost := rfl
@[simp] theorem State.decodeEdges_stop (s : State) : (s.decodeEdges).stop = s.stop := rfl
@[simp] theorem State.decodeEdges_dutyR (s : State) : (s.decodeEdges).dutyR = s.dutyR := rfl
@[simp] theorem State.decodeEdges_dutyL (s : State) : (s.decodeEdges).dutyL = s.dutyL := rfl
@[simp] theorem State.decodeEdges_btnLine (s : State) : (s.decodeEdges).btnLine = s.btnLine := rfl
@[simp] theorem State.decodeEdges_dbState (s : State) : (s.decodeEdges).dbState = s.dbState := rfl
@[simp] theorem State.decodeEdges_dbDir (s : State) : (s.decodeEdges).dbDir = s.dbDir := rfl
@[simp] theorem State.decodeEdges_dbtArmed (s : State) : (s.decodeEdges).dbtArmed = s.dbtArmed := rfl
@[simp] theorem State.decodeEdges_go (s : State) : (s.decodeEdges).go = s.go := rfl
@[simp] theorem State.decodeEdges_goPrev (s : State) : (s.decodeEdges).goPrev = s.goPrev := rfl
@[simp] theorem State.decodeEdges_latch (s : State) : (s.decodeEdges).latch = s.latch := rfl
@[simp] theorem State.decodeEdges_en (s : State) : (s.decodeEdges).en = s.en := rfl
@[simp] theorem State.decodeEdges_sleeping (s : State) : (s.decodeEdges).sleeping = s.sleeping := rfl
@[simp] theorem State.decodeEdges_log (s : State) : (s.decodeEdges).log = s.log := rfl
@[simp] theorem State.decodeEdges_params (s : State) : (s.decodeEdges).params = s.params := rfl
@[simp] theorem State.decodeEdges_stream (s : State) : (s.decodeEdges).stream = s.stream := rfl
@[simp] theorem State.decodeEdges_sched (s : State) : (s.decodeEdges).sched = s.sched := rfl
@[simp] theorem State.decodeEdges_turns (s : State) : (s.decodeEdges).turns = s.turns := rfl

@[simp] theorem State.seqPublish_enc0 (s : State) : (s.seqPublish).enc0 = s.enc0 := rfl
@[simp] theorem State.seqPublish_enc1 (s : State) : (s.seqPublish).enc1 = s.enc1 := rfl
@[simp] theorem State.seqPublish_cur (s : State) : (s.seqPublish).cur = s.cur := rfl
@[simp] theorem State.seqPublish_nxt (s : State) : (s.seqPublish).nxt = s.nxt := rfl
@[simp] theorem State.seqPublish_rc (s : State) : (s.seqPublish).rc = s.rc := rfl
@[simp] theorem State.seqPublish_acc (s : State) : (s.seqPublish).acc = 0 := rfl
@[simp] theorem State.seqPublish_lp (s : State) : (s.seqPublish).lp = s.acc := rfl
@[simp] theorem State.seqPublish_dacc (s : State) : (s.seqPublish).dacc = s.dacc := rfl
@[simp] theorem State.seqPublish_sampleReg (s : State) : (s.seqPublish).sampleReg = s.sampleReg := rfl
@[simp] theorem State.seqPublish_adf (s : State) : (s.seqPublish).adf = s.adf := rfl
@[simp] theorem State.seqPublish_convBusy (s : State) : (s.seqPublish).convBusy = s.convBusy := rfl
@[simp] theorem State.seqPublish_convCh (s : State) : (s.seqPublish).convCh = s.convCh := rfl
@[simp] theorem State.seqPublish_lost (s : State) : (s.seqPublish).lost = s.lost := rfl
@[simp] theorem State.seqPublish_stop (s : State) : (s.seqPublish).stop = s.stop := rfl
@[simp] theorem State.seqPublish_dutyR (s : State) : (s.seqPublish).dutyR = s.dutyR := rfl
@[simp] theorem State.seqPublish_dutyL (s : State) : (s.seqPublish).dutyL = s.dutyL := rfl
@[simp] theorem State.seqPublish_btnLine (s : State) : (s.seqPublish).btnLine = s.btnLine := rfl
@[simp] theorem State.seqPublish_dbState (s : State) : (s.seqPublish).dbState = s.dbState := rfl
@[simp] theorem State.seqPublish_dbDir (s : State) : (s.seqPublish).dbDir = s.dbDir := rfl
@[simp] theorem State.seqPublish_dbtArmed (s : State) : (s.seqPublish).dbtArmed = s.dbtArmed := rfl
@[simp] theorem State.seqPublish_go (s : State) : (s.seqPublish).go = s.go := rfl
@[simp] theorem State.seqPublish_goPrev (s : State) : (s.seqPublish).goPrev = s.goPrev := rfl
@[simp] theorem State.seqPublish_latch (s : State) : (s.seqPublish).latch = s.latch := rfl
@[simp] theorem State.seqPublish_en (s : State) : (s.seqPublish).en = s.en := rfl
@[simp] theorem State.seqPublish_sleeping (s : State) : (s.seqPublish).sleeping = s.sleeping := rfl
@[simp] theorem State.seqPublish_log (s : State) : (s.seqPublish).log = s.log := rfl
@[simp] theorem State.seqPublish_params (s : State) : (s.seqPublish).params = s.params := rfl
@[simp] theorem State.seqPublish_stream (s : State) : (s.seqPublish).stream = s.stream := rfl
@[simp] theorem State.seqPublish_sched (s : State) : (s.seqPublish).sched = s.sched := rfl
@[simp] theorem State.seqPublish_turns (s : State) : (s.seqPublish).turns = s.turns := rfl

@[simp] theorem State.wake_enc0 (s : State) : s.wake.enc0 = s.enc0 := by unfold State.wake; split <;> rfl
@[simp] theorem State.wake_enc1 (s : State) : s.wake.enc1 = s.enc1 := by unfold State.wake; split <;> rfl
@[simp] theorem State.wake_cur (s : State) : s.wake.cur = s.cur := by unfold State.wake; split <;> rfl
@[simp] theorem State.wake_nxt (s : State) : s.wake.nxt = s.nxt := by unfold State.wake; split <;> rfl
@[simp] theorem State.wake_rc (s : State) : s.wake.rc = s.rc := by unfold State.wake; split <;> rfl
@[simp] theorem State.wake_acc (s : State) : s.wake.acc = s.acc := by unfold State.wake; split <;> rfl
@[simp] theorem State.wake_lp (s : State) : s.wake.lp = s.lp := by unfold State.wake; split <;> rfl
@[simp] theorem State.wake_dacc (s : State) : s.wake.dacc = s.dacc := by unfold State.wake; split <;> rfl
@[simp] theorem State.wake_sampleReg (s : State) : s.wake.sampleReg = s.sampleReg := by unfold State.wake; split <;> rfl
@[simp] theorem State.wake_adf (s : State) : s.wake.adf = s.adf := by unfold State.wake; split <;> rfl
@[simp] theorem State.wake_convBusy (s : State) : s.wake.convBusy = s.convBusy := by unfold State.wake; split <;> rfl
@[simp] theorem State.wake_convCh (s : State) : s.wake.convCh = s.convCh := by unfold State.wake; split <;> rfl
@[simp] theorem State.wake_lost (s : State) : s.wake.lost = s.lost := by unfold State.wake; split <;> rfl
@[simp] theorem State.wake_stop (s : State) : s.wake.stop = s.stop := by unfold State.wake; split <;> rfl
@[simp] theorem State.wake_dutyR (s : State) : s.wake.dutyR = s.dutyR := by unfold State.wake; split <;> rfl
@[simp] theorem State.wake_dutyL (s : State) : s.wake.dutyL = s.dutyL := by unfold State.wake; split <;> rfl
@[simp] theorem State.wake_btnLine (s : State) : s.wake.btnLine = s.btnLine := by unfold State.wake; split <;> rfl
@[simp] theorem State.wake_dbState (s : State) : s.wake.dbState = s.dbState := by unfold State.wake; split <;> rfl
@[simp] theorem State.wake_dbDir (s : State) : s.wake.dbDir = s.dbDir := by unfold State.wake; split <;> rfl
@[simp] theorem State.wake_dbtArmed (s : State) : s.wake.dbtArmed = s.dbtArmed := by unfold State.wake; split <;> rfl
@[simp] theorem State.wake_go (s : State) : s.wake.go = s.go := by unfold State.wake; split <;> rfl
@[simp] theorem State.wake_goPrev (s : State) : s.wake.goPrev = s.goPrev := by unfold State.wake; split <;> rfl
@[simp] theorem State.wake_latch (s : State) : s.wake.latch = s.latch := by unfold State.wake; split <;> rfl
@[simp] theorem State.wake_en (s : State) : s.wake.en = s.en := by unfold State.wake; split <;> rfl
@[simp] theorem State.wake_log (s : State) : s.wake.log = s.log := by unfold State.wake; split <;> rfl
@[simp] theorem State.wake_params (s : State) : s.wake.params = s.params := by unfold State.wake; split <;> rfl
@[simp] theorem State.wake_stream (s : State) : s.wake.stream = s.stream := by unfold State.wake; split <;> rfl
@[simp] theorem State.wake_sched (s : State) : s.wake.sched = s.sched := by unfold State.wake; split <;> rfl
@[simp] theorem State.wake_turns (s : State) : s.wake.turns = s.turns := by unfold State.wake; split <;> rfl

/-- What the wake leaves in SLEEPING: still asleep only if quiescent (R165). -/
@[simp] theorem State.wake_sleeping (s : State) : s.wake.sleeping = (s.sleeping && s.quiescent) := by
  unfold State.wake
  split <;> simp_all

@[simp] theorem State.setLines_cur (s : State) (e : Fin 2) (l : BitVec 2) : (s.setLines e l).cur = s.cur := by
  unfold State.setLines; split <;> rfl
@[simp] theorem State.setLines_nxt (s : State) (e : Fin 2) (l : BitVec 2) : (s.setLines e l).nxt = s.nxt := by
  unfold State.setLines; split <;> rfl
@[simp] theorem State.setLines_rc (s : State) (e : Fin 2) (l : BitVec 2) : (s.setLines e l).rc = s.rc := by
  unfold State.setLines; split <;> rfl
@[simp] theorem State.setLines_acc (s : State) (e : Fin 2) (l : BitVec 2) : (s.setLines e l).acc = s.acc := by
  unfold State.setLines; split <;> rfl
@[simp] theorem State.setLines_lp (s : State) (e : Fin 2) (l : BitVec 2) : (s.setLines e l).lp = s.lp := by
  unfold State.setLines; split <;> rfl
@[simp] theorem State.setLines_dacc (s : State) (e : Fin 2) (l : BitVec 2) : (s.setLines e l).dacc = s.dacc := by
  unfold State.setLines; split <;> rfl
@[simp] theorem State.setLines_sampleReg (s : State) (e : Fin 2) (l : BitVec 2) : (s.setLines e l).sampleReg = s.sampleReg := by
  unfold State.setLines; split <;> rfl
@[simp] theorem State.setLines_adf (s : State) (e : Fin 2) (l : BitVec 2) : (s.setLines e l).adf = s.adf := by
  unfold State.setLines; split <;> rfl
@[simp] theorem State.setLines_convBusy (s : State) (e : Fin 2) (l : BitVec 2) : (s.setLines e l).convBusy = s.convBusy := by
  unfold State.setLines; split <;> rfl
@[simp] theorem State.setLines_convCh (s : State) (e : Fin 2) (l : BitVec 2) : (s.setLines e l).convCh = s.convCh := by
  unfold State.setLines; split <;> rfl
@[simp] theorem State.setLines_lost (s : State) (e : Fin 2) (l : BitVec 2) : (s.setLines e l).lost = s.lost := by
  unfold State.setLines; split <;> rfl
@[simp] theorem State.setLines_stop (s : State) (e : Fin 2) (l : BitVec 2) : (s.setLines e l).stop = s.stop := by
  unfold State.setLines; split <;> rfl
@[simp] theorem State.setLines_dutyR (s : State) (e : Fin 2) (l : BitVec 2) : (s.setLines e l).dutyR = s.dutyR := by
  unfold State.setLines; split <;> rfl
@[simp] theorem State.setLines_dutyL (s : State) (e : Fin 2) (l : BitVec 2) : (s.setLines e l).dutyL = s.dutyL := by
  unfold State.setLines; split <;> rfl
@[simp] theorem State.setLines_btnLine (s : State) (e : Fin 2) (l : BitVec 2) : (s.setLines e l).btnLine = s.btnLine := by
  unfold State.setLines; split <;> rfl
@[simp] theorem State.setLines_dbState (s : State) (e : Fin 2) (l : BitVec 2) : (s.setLines e l).dbState = s.dbState := by
  unfold State.setLines; split <;> rfl
@[simp] theorem State.setLines_dbDir (s : State) (e : Fin 2) (l : BitVec 2) : (s.setLines e l).dbDir = s.dbDir := by
  unfold State.setLines; split <;> rfl
@[simp] theorem State.setLines_dbtArmed (s : State) (e : Fin 2) (l : BitVec 2) : (s.setLines e l).dbtArmed = s.dbtArmed := by
  unfold State.setLines; split <;> rfl
@[simp] theorem State.setLines_go (s : State) (e : Fin 2) (l : BitVec 2) : (s.setLines e l).go = s.go := by
  unfold State.setLines; split <;> rfl
@[simp] theorem State.setLines_goPrev (s : State) (e : Fin 2) (l : BitVec 2) : (s.setLines e l).goPrev = s.goPrev := by
  unfold State.setLines; split <;> rfl
@[simp] theorem State.setLines_latch (s : State) (e : Fin 2) (l : BitVec 2) : (s.setLines e l).latch = s.latch := by
  unfold State.setLines; split <;> rfl
@[simp] theorem State.setLines_en (s : State) (e : Fin 2) (l : BitVec 2) : (s.setLines e l).en = s.en := by
  unfold State.setLines; split <;> rfl
@[simp] theorem State.setLines_sleeping (s : State) (e : Fin 2) (l : BitVec 2) : (s.setLines e l).sleeping = s.sleeping := by
  unfold State.setLines; split <;> rfl
@[simp] theorem State.setLines_log (s : State) (e : Fin 2) (l : BitVec 2) : (s.setLines e l).log = s.log := by
  unfold State.setLines; split <;> rfl
@[simp] theorem State.setLines_params (s : State) (e : Fin 2) (l : BitVec 2) : (s.setLines e l).params = s.params := by
  unfold State.setLines; split <;> rfl
@[simp] theorem State.setLines_stream (s : State) (e : Fin 2) (l : BitVec 2) : (s.setLines e l).stream = s.stream := by
  unfold State.setLines; split <;> rfl
@[simp] theorem State.setLines_sched (s : State) (e : Fin 2) (l : BitVec 2) : (s.setLines e l).sched = s.sched := by
  unfold State.setLines; split <;> rfl
@[simp] theorem State.setLines_turns (s : State) (e : Fin 2) (l : BitVec 2) : (s.setLines e l).turns = s.turns := by
  unfold State.setLines; split <;> rfl

@[simp] theorem State.setLines_zero (s : State) (l : BitVec 2) :
    s.setLines 0 l = { s with enc0 := { s.enc0 with lines := l } } := rfl

@[simp] theorem State.setLines_one (s : State) (l : BitVec 2) :
    s.setLines 1 l = { s with enc1 := { s.enc1 with lines := l } } := rfl

@[simp] theorem Latches.set_disp_disp (l : Latches) (b : Bool) : (l.set .disp b).disp = b := rfl
@[simp] theorem Latches.set_disp_btn (l : Latches) (b : Bool) : (l.set .disp b).btn = l.btn := rfl
@[simp] theorem Latches.set_disp_adc (l : Latches) (b : Bool) : (l.set .disp b).adc = l.adc := rfl
@[simp] theorem Latches.set_disp_dbt (l : Latches) (b : Bool) : (l.set .disp b).dbt = l.dbt := rfl
@[simp] theorem Latches.set_disp_ctrl (l : Latches) (b : Bool) : (l.set .disp b).ctrl = l.ctrl := rfl
@[simp] theorem Latches.set_disp_obs (l : Latches) (b : Bool) : (l.set .disp b).obs = l.obs := rfl
@[simp] theorem Latches.set_btn_disp (l : Latches) (b : Bool) : (l.set .btn b).disp = l.disp := rfl
@[simp] theorem Latches.set_btn_btn (l : Latches) (b : Bool) : (l.set .btn b).btn = b := rfl
@[simp] theorem Latches.set_btn_adc (l : Latches) (b : Bool) : (l.set .btn b).adc = l.adc := rfl
@[simp] theorem Latches.set_btn_dbt (l : Latches) (b : Bool) : (l.set .btn b).dbt = l.dbt := rfl
@[simp] theorem Latches.set_btn_ctrl (l : Latches) (b : Bool) : (l.set .btn b).ctrl = l.ctrl := rfl
@[simp] theorem Latches.set_btn_obs (l : Latches) (b : Bool) : (l.set .btn b).obs = l.obs := rfl
@[simp] theorem Latches.set_adc_disp (l : Latches) (b : Bool) : (l.set .adc b).disp = l.disp := rfl
@[simp] theorem Latches.set_adc_btn (l : Latches) (b : Bool) : (l.set .adc b).btn = l.btn := rfl
@[simp] theorem Latches.set_adc_adc (l : Latches) (b : Bool) : (l.set .adc b).adc = b := rfl
@[simp] theorem Latches.set_adc_dbt (l : Latches) (b : Bool) : (l.set .adc b).dbt = l.dbt := rfl
@[simp] theorem Latches.set_adc_ctrl (l : Latches) (b : Bool) : (l.set .adc b).ctrl = l.ctrl := rfl
@[simp] theorem Latches.set_adc_obs (l : Latches) (b : Bool) : (l.set .adc b).obs = l.obs := rfl
@[simp] theorem Latches.set_qed_disp (l : Latches) (b : Bool) : (l.set .qed b).disp = l.disp := rfl
@[simp] theorem Latches.set_qed_btn (l : Latches) (b : Bool) : (l.set .qed b).btn = l.btn := rfl
@[simp] theorem Latches.set_qed_adc (l : Latches) (b : Bool) : (l.set .qed b).adc = l.adc := rfl
@[simp] theorem Latches.set_qed_dbt (l : Latches) (b : Bool) : (l.set .qed b).dbt = l.dbt := rfl
@[simp] theorem Latches.set_qed_ctrl (l : Latches) (b : Bool) : (l.set .qed b).ctrl = l.ctrl := rfl
@[simp] theorem Latches.set_qed_obs (l : Latches) (b : Bool) : (l.set .qed b).obs = l.obs := rfl
@[simp] theorem Latches.set_dbt_disp (l : Latches) (b : Bool) : (l.set .dbt b).disp = l.disp := rfl
@[simp] theorem Latches.set_dbt_btn (l : Latches) (b : Bool) : (l.set .dbt b).btn = l.btn := rfl
@[simp] theorem Latches.set_dbt_adc (l : Latches) (b : Bool) : (l.set .dbt b).adc = l.adc := rfl
@[simp] theorem Latches.set_dbt_dbt (l : Latches) (b : Bool) : (l.set .dbt b).dbt = b := rfl
@[simp] theorem Latches.set_dbt_ctrl (l : Latches) (b : Bool) : (l.set .dbt b).ctrl = l.ctrl := rfl
@[simp] theorem Latches.set_dbt_obs (l : Latches) (b : Bool) : (l.set .dbt b).obs = l.obs := rfl
@[simp] theorem Latches.set_ctrl_disp (l : Latches) (b : Bool) : (l.set .ctrl b).disp = l.disp := rfl
@[simp] theorem Latches.set_ctrl_btn (l : Latches) (b : Bool) : (l.set .ctrl b).btn = l.btn := rfl
@[simp] theorem Latches.set_ctrl_adc (l : Latches) (b : Bool) : (l.set .ctrl b).adc = l.adc := rfl
@[simp] theorem Latches.set_ctrl_dbt (l : Latches) (b : Bool) : (l.set .ctrl b).dbt = l.dbt := rfl
@[simp] theorem Latches.set_ctrl_ctrl (l : Latches) (b : Bool) : (l.set .ctrl b).ctrl = b := rfl
@[simp] theorem Latches.set_ctrl_obs (l : Latches) (b : Bool) : (l.set .ctrl b).obs = l.obs := rfl
@[simp] theorem Latches.set_obs_disp (l : Latches) (b : Bool) : (l.set .obs b).disp = l.disp := rfl
@[simp] theorem Latches.set_obs_btn (l : Latches) (b : Bool) : (l.set .obs b).btn = l.btn := rfl
@[simp] theorem Latches.set_obs_adc (l : Latches) (b : Bool) : (l.set .obs b).adc = l.adc := rfl
@[simp] theorem Latches.set_obs_dbt (l : Latches) (b : Bool) : (l.set .obs b).dbt = l.dbt := rfl
@[simp] theorem Latches.set_obs_ctrl (l : Latches) (b : Bool) : (l.set .obs b).ctrl = l.ctrl := rfl
@[simp] theorem Latches.set_obs_obs (l : Latches) (b : Bool) : (l.set .obs b).obs = b := rfl

/-- Reading a latch after a write: the written one, and every other as before; QED has none (R41). -/
theorem Latches.get_set (l : Latches) (src src' : Source) (b : Bool) :
    (l.set src b).get src' = if src = src' ∧ src ≠ .qed then b else l.get src' := by
  cases src <;> cases src' <;> rfl

/-- PEND by source is the latch, but for QED (R41). -/
theorem State.pend_eq (s : State) (src : Source) :
    s.pend src = if src = .qed then s.qedPend else s.latch.get src := by
  cases src <;> rfl

end Sys2Proof.Machine
end

