-- ==== Sys2Proof/Laws/Ops.lean ====
section
/-! SUPPORT. For each shared operation, one lemma that says once everything it can do. -/

namespace Sys2Proof.Machine

open Sys2Proof.Config

/-- Writing one bit: that bit, and every other as before (R103). -/
theorem setBit_getLsbD {n : Nat} (v : BitVec n) (i j : Nat) (b : Bool) (hi : i < n) :
    (setBit v i b).getLsbD j = if j = i then b else v.getLsbD j := by
  have h1 : (1#n <<< i).getLsbD j = decide (j = i) := by
    rw [← BitVec.twoPow_eq, BitVec.getLsbD_twoPow]
    by_cases h : j = i <;> simp_all [eq_comm]
  unfold setBit
  by_cases h : j = i
  · subst h
    cases b <;> simp_all
  · cases b with
    | true => simp [h, h1]
    | false =>
      have hlt : v.getLsbD j = true → j < n := BitVec.lt_of_getLsbD
      cases hv : v.getLsbD j <;> (simp_all; try omega)

/-- Quiescence: no source is both pending and enabled (R148). -/
theorem State.quiescent_iff (s : State) : s.quiescent = true ↔ ∀ src, s.wanted src = false := by
  constructor
  · intro h src
    simp [State.quiescent, serviceOrder, highChain, lowChain] at h
    cases src <;> simp_all
  · intro h
    simp [State.quiescent, serviceOrder, highChain, lowChain, h]

/-- What the dispatch rule selects is serviceable (R151). -/
theorem State.nextService_serviceable {s : State} {src : Source} (h : s.nextService = some src) :
    s.serviceable src = true :=
  List.find?_some h

/-- A selected service means the block is awake (R148). -/
theorem State.nextService_awake {s : State} {src : Source} (h : s.nextService = some src) : s.sleeping = false := by
  have := State.nextService_serviceable h
  simp_all [State.serviceable]

/-- Nothing is selected exactly when the block is asleep or quiescent (R148, R151). -/
theorem State.nextService_eq_none (s : State) : s.nextService = none ↔ s.sleeping = true ∨ s.quiescent = true := by
  rw [State.quiescent_iff]
  simp only [State.nextService, List.find?_eq_none, State.serviceable]
  constructor
  · intro h
    by_cases hs : s.sleeping = true
    · exact .inl hs
    · refine .inr fun src => ?_
      have := h src (by cases src <;> decide)
      simp_all
  · rintro (h | h) src - <;> simp [h]

/-- A step taken awake ends as it is (R165). -/
theorem endStep_awake {before : State} (after : State) (h : before.sleeping = false) :
    endStep before after = .next after := by
  simp [endStep, h]

/-- A step taken asleep ends with the wake (R165). -/
theorem endStep_asleep {before : State} (after : State) (h : before.sleeping = true) :
    endStep before after = .next after.wake := by
  simp [endStep, h]

/-- A host step runs exactly when it is enabled, and the block is then awake and quiescent (R150). -/
theorem hostStep_enabled {s : State} (body : State → Result) (h : s.hostEnabled = true) :
    hostStep s body = body s ∧ s.sleeping = false ∧ s.quiescent = true := by
  simp_all [hostStep, State.hostEnabled]

/-- A host step that is not enabled holds (R161). -/
theorem hostStep_held {s : State} (body : State → Result) (h : s.hostEnabled = false) :
    hostStep s body = .fault .held := by
  simp [hostStep, h]

/-- What a host step that answers a next state came from (R150). -/
theorem hostStep_next {s t : State} {body : State → Result} (h : hostStep s body = .next t) :
    s.sleeping = false ∧ s.quiescent = true ∧ body s = .next t := by
  unfold hostStep at h
  split at h
  · simp_all [State.hostEnabled]
  · cases h

/-- A timer or ADC word runs exactly when awake, and is refused X5 asleep (R159). -/
theorem clockedStep_next {s t : State} {body : State → Result} (h : clockedStep s body = .next t) :
    s.sleeping = false ∧ body s = .next t := by
  unfold clockedStep at h
  split at h
  · cases h
  · simp_all

/-- Awake, a clocked word is its body (R159). -/
theorem clockedStep_awake {s : State} (body : State → Result) (h : s.sleeping = false) :
    clockedStep s body = body s := by
  simp [clockedStep, h]

/-- The dispatch step of the selected source: clear the latch, run the service (R151). -/
theorem dispatch_selected {src : Source} {s : State} (service : State → State) (h : s.nextService = some src) :
    dispatch src s service = .next (service (s.setPend src false)) := by
  simp [dispatch, h, endStep, State.nextService_awake h]

/-- The dispatch step of any other source holds (R151, R161). -/
theorem dispatch_held {src : Source} {s : State} (service : State → State) (h : s.nextService ≠ some src) :
    dispatch src s service = .fault .held := by
  simp [dispatch, h]

/-- What a dispatch step that answers a next state came from (R151). -/
theorem dispatch_next {src : Source} {s t : State} {service : State → State} (h : dispatch src s service = .next t) :
    s.nextService = some src ∧ s.sleeping = false ∧ t = service (s.setPend src false) := by
  by_cases hn : s.nextService = some src
  · rw [dispatch_selected service hn] at h
    exact ⟨hn, State.nextService_awake hn, by simpa using h.symm⟩
  · rw [dispatch_held service hn] at h
    cases h

/-- One encoder's part of SVC_QED: updated on a change, else untouched (R89). -/
theorem Encoder.decodeEdge_cases (p : Params) (c : Encoder) :
    (c.changed = true ∧ c.decodeEdge p =
      ⟨c.lines, c.newest ++ c.lines, BitVec.ofInt 16 (c.count.toInt + qtabAt p (c.newest ++ c.lines))⟩) ∨
    (c.changed = false ∧ c.decodeEdge p = c) := by
  unfold Encoder.decodeEdge
  by_cases h : c.changed = true
  · exact .inl ⟨h, by simp [h]⟩
  · exact .inr ⟨by simpa using h, by simp [h]⟩

/-- After its part of SVC_QED an encoder has no pending change (R89, R25). -/
@[simp] theorem Encoder.decodeEdge_changed (p : Params) (c : Encoder) : (c.decodeEdge p).changed = false := by
  rcases Encoder.decodeEdge_cases p c with ⟨-, h⟩ | ⟨h, h'⟩
  · rw [h]
    simp only [Encoder.changed, Encoder.newest, bne_eq_false_iff_eq]
    generalize BitVec.extractLsb' 0 2 c.hist = x
    ext i hi
    simp only [← BitVec.getLsbD_eq_getElem, BitVec.getLsbD_extractLsb', hi, decide_true, Bool.true_and, Nat.zero_add]
    exact (BitVec.getLsbD_append (x := x) (y := c.lines) (i := i)).symm ▸ by simp [hi]
  · rw [h']
    exact h

/-- What SEQ_ADOPT can do (R99, R100). -/
theorem State.seqAdopt_cases (s : State) :
    (s.nxt = s.cur ∧ s.seqAdopt = s) ∨
    (s.nxt ≠ s.cur ∧ s.nxt = s.params.head ∧
      s.seqAdopt = { s with cur := s.nxt, rc := 0, lp := s.acc, acc := 0 }) ∨
    (s.nxt ≠ s.cur ∧ s.nxt ≠ s.params.head ∧ s.seqAdopt = { s with cur := s.nxt, rc := 0 }) := by
  unfold State.seqAdopt
  by_cases h : s.nxt = s.cur
  · exact .inl ⟨h, by simp [h]⟩
  · by_cases h' : s.nxt = s.params.head
    · exact .inr (.inl ⟨h, h', by rw [if_neg h, if_pos h']; rfl⟩)
    · exact .inr (.inr ⟨h, h', by simp [h, h']⟩)

/-- What the reading count can do: the measured sample at 2, else only the count (R101, R103). -/
theorem State.seqCount_cases (s : State) (v : BitVec 12) :
    (s.rc = 1 ∧ s.seqCount v =
      { s with
        rc := 2
        acc := setBit s.acc (s.sensor s.cur).lbit.val (binarise v)
        dacc := setBit s.dacc (s.sensor s.cur).dbit.val (binarise v)
        nxt := (s.sensor s.cur).succ }) ∨
    (s.rc ≠ 1 ∧ s.seqCount v = { s with rc := s.rc + 1 }) := by
  unfold State.seqCount readingsMax
  by_cases h : s.rc = 1
  · refine .inl ⟨h, ?_⟩
    simp [h, State.seqMeasure, State.sensor]
  · refine .inr ⟨h, ?_⟩
    rw [if_neg]
    intro h'
    exact h (by bv_omega)

/-- What H_SAMPLE's pseudocode can do: nothing, or adopt and count with the flag cleared (R98). -/
theorem State.runSequencer_cases (s : State) :
    (s.adf = false ∧ s.runSequencer = s) ∨
    (s.adf = true ∧ s.runSequencer = ({ s with adf := false }.seqAdopt).seqCount s.sampleReg) := by
  unfold State.runSequencer
  cases h : s.adf <;> simp

/-- What the edge detector can do (R109). -/
theorem State.buttonLevel_cases (s : State) (l : Bool) :
    (s.enabled .btn = true ∧ s.latch.btn = false ∧ l ≠ s.btnLine ∧
      s.buttonLevel l = { s with btnLine := l, dbDir := l, latch := { s.latch with btn := true } }) ∨
    (¬(s.enabled .btn = true ∧ s.latch.btn = false ∧ l ≠ s.btnLine) ∧ s.buttonLevel l = { s with btnLine := l }) := by
  unfold State.buttonLevel
  by_cases h : s.enabled .btn = true ∧ s.latch.btn = false ∧ l ≠ s.btnLine
  · refine .inl ⟨h.1, h.2.1, h.2.2, ?_⟩
    rw [if_pos (by simp_all [State.pend])]
    rfl
  · refine .inr ⟨h, ?_⟩
    rw [if_neg]
    simp_all [State.pend]

/-- What SVC_DBT's pseudocode can do (R114). -/
theorem State.confirmDebounce_cases (s : State) :
    (s.dbState = .debouncing ∧
      s.confirmDebounce = { s with go := s.go ^^ s.confirms s.btnLine, dbState := .idle }.writeEnBtn true) ∨
    (s.dbState = .idle ∧ s.confirmDebounce = s) := by
  unfold State.confirmDebounce
  cases h : s.dbState <;> simp

/-- What H_GOEDGE's pseudocode can do (R115). -/
theorem State.goEdge_cases (s : State) :
    (s.go = s.goPrev ∧ s.goEdge = s) ∨
    (s.go = true ∧ s.goPrev = false ∧ s.goEdge = { s with log := s.log ++ [.start], goPrev := true }) ∨
    (s.go = false ∧ s.goPrev = true ∧ s.goEdge = { s with log := s.log ++ [.pause], goPrev := false }) := by
  unfold State.goEdge
  cases h : s.go <;> cases h' : s.goPrev <;> simp [State.emit, h]

/-- What SVC_CTRL's pseudocode can do (R123). -/
theorem State.controlPeriod_cases (s : State) :
    (s.go = false ∧ s.params.ctrlGated = true ∧ s.controlPeriod = s) ∨
    ((s.go = true ∨ s.params.ctrlGated = false) ∧ s.controlPeriod = s.applyStatus (classify s.lp)) := by
  unfold State.controlPeriod
  cases h : s.go <;> cases h' : s.params.ctrlGated <;> simp

/-- `sat_8(x + 1)` on numbers (R124). -/
theorem satInc_toNat (x : BitVec 8) : (satInc x).toNat = min (x.toNat + 1) 255 := by
  have := x.isLt
  simp only [satInc, counterMax, BitVec.toNat_ofNat]
  omega

/-- A trip is a counter of at least 11 (R34). -/
theorem trips_iff (x : BitVec 8) : trips x = true ↔ 11 ≤ x.toNat := by
  simp [trips, faultThresh]
  omega

/-- RegRead answers exactly at the defined addresses (R54, R56). -/
theorem State.regRead_isSome (s : State) (a : RegAddr) : (s.regRead a).isSome = decide (a.toNat < 13) := by
  unfold State.regRead
  have := a.isLt
  generalize a.toNat = n at *
  have h : n < 32 := this
  interval_cases n <;> rfl

/-- An agent's next word: the first of its class; every earlier word is of another class and stays (R10). -/
theorem takeFirst_eq_some {p : Word → Bool} {ws rest : List Word} {w : Word} (h : takeFirst p ws = some (w, rest)) :
    ∃ front back, ws = front ++ w :: back ∧ rest = front ++ back ∧ p w = true ∧ ∀ x ∈ front, p x = false := by
  induction ws generalizing rest with
  | nil => simp [takeFirst] at h
  | cons x xs ih =>
    unfold takeFirst at h
    by_cases hx : p x = true
    · simp [hx] at h
      exact ⟨[], xs, by simp [h.1, h.2], by simp [h.2], h.1 ▸ hx, by simp⟩
    · simp only [hx] at h
      cases hr : takeFirst p xs with
      | none => simp [hr] at h
      | some r =>
        obtain ⟨y, ys⟩ := r
        simp [hr] at h
        obtain ⟨rfl, rfl⟩ := h
        obtain ⟨front, back, h1, h2, h3, h4⟩ := ih hr
        refine ⟨x :: front, back, by simp [h1], by simp [h2], h3, ?_⟩
        intro z hz
        rcases List.mem_cons.1 hz with rfl | hz
        · simpa using hx
        · exact h4 z hz

end Sys2Proof.Machine
end

