-- ==== Sys2Proof/Laws/Exec.lean ====
section
/-! SUPPORT. One inversion lemma per meaning: what a next state came from. Every whole-machine proof is a case split over
the operation and these lemmas. -/

namespace Sys2Proof.Machine

open Sys2Proof.Config

/-- Two next states are equal when their answers are. -/
theorem next_inj {u t : State} (h : (.next u : Result) = .next t) : t = u := by
  cases h
  rfl

/-- What a step's end can leave (R165). -/
theorem endStep_next {before after t : State} (h : endStep before after = .next t) :
    t = if before.sleeping = true then after.wake else after := by
  simpa [endStep] using h.symm

theorem execEnc_next {e : Fin 2} {a b : Bool} {s t : State} (h : execEnc e a b s = .next t) :
    t = if s.sleeping = true then (s.setLines e (lineState a b)).wake else s.setLines e (lineState a b) :=
  endStep_next h

theorem execBtn_next {l : Bool} {s t : State} (h : execBtn l s = .next t) :
    t = if s.sleeping = true then (s.buttonLevel l).wake else s.buttonLevel l :=
  endStep_next h

theorem execAdc_next {v : BitVec 12} {s t : State} (h : execAdc v s = .next t) :
    s.sleeping = false ∧ s.convBusy = true ∧
      t = { s with sampleReg := v, convBusy := false, latch := { s.latch with adc := true } } := by
  obtain ⟨hs, h⟩ := clockedStep_next h
  split at h
  · next hb => exact ⟨hs, hb, by rw [endStep_awake _ hs] at h; exact next_inj h⟩
  · cases h

theorem execTickObs_next {s t : State} (h : execTickObs s = .next t) :
    s.sleeping = false ∧ t = { s with latch := { s.latch with obs := true } } := by
  obtain ⟨hs, h⟩ := clockedStep_next h
  rw [endStep_awake _ hs] at h
  exact ⟨hs, next_inj h⟩

theorem execTickCtrl_next {s t : State} (h : execTickCtrl s = .next t) :
    s.sleeping = false ∧ t = { s with latch := { s.latch with ctrl := true } } := by
  obtain ⟨hs, h⟩ := clockedStep_next h
  rw [endStep_awake _ hs] at h
  exact ⟨hs, next_inj h⟩

theorem execTickDisp_next {s t : State} (h : execTickDisp s = .next t) :
    s.sleeping = false ∧ t = { s with latch := { s.latch with disp := true } } := by
  obtain ⟨hs, h⟩ := clockedStep_next h
  rw [endStep_awake _ hs] at h
  exact ⟨hs, next_inj h⟩

theorem execDbtFire_next {s t : State} (h : execDbtFire s = .next t) :
    s.sleeping = false ∧ s.dbtArmed = true ∧
      t = { s with dbtArmed := false, latch := { s.latch with dbt := true } } := by
  obtain ⟨hs, h⟩ := clockedStep_next h
  split at h
  · next hb => exact ⟨hs, hb, by rw [endStep_awake _ hs] at h; exact next_inj h⟩
  · cases h

/-- SYNC changes nothing, asleep or awake (R136). -/
theorem execSync_next {s t : State} (h : execSync s = .next t) : s.quiescent = true ∧ t = s := by
  unfold execSync at h
  split at h
  · next hq =>
    refine ⟨hq, ?_⟩
    have := endStep_next h
    simpa [State.wake, hq] using this
  · cases h

theorem execHSample_next {s t : State} (h : execHSample s = .next t) :
    s.sleeping = false ∧ s.quiescent = true ∧ t = s.runSequencer := by
  obtain ⟨hs, hq, h⟩ := hostStep_next h
  rw [endStep_awake _ hs] at h
  exact ⟨hs, hq, next_inj h⟩

theorem execHGoedge_next {s t : State} (h : execHGoedge s = .next t) :
    s.sleeping = false ∧ s.quiescent = true ∧ t = s.goEdge := by
  obtain ⟨hs, hq, h⟩ := hostStep_next h
  rw [endStep_awake _ hs] at h
  exact ⟨hs, hq, next_inj h⟩

theorem execHRecover_next {s t : State} (h : execHRecover s = .next t) :
    s.sleeping = false ∧ s.quiescent = true ∧ t = { s with go := false, goPrev := false, lost := 0, stop := 0 } := by
  obtain ⟨hs, hq, h⟩ := hostStep_next h
  rw [endStep_awake _ hs] at h
  exact ⟨hs, hq, next_inj h⟩

theorem execHSleep_next {s t : State} (h : execHSleep s = .next t) :
    s.sleeping = false ∧ s.quiescent = true ∧ t = { s.emit .sleep with sleeping := true } := by
  obtain ⟨hs, hq, h⟩ := hostStep_next h
  rw [endStep_awake _ hs] at h
  exact ⟨hs, hq, next_inj h⟩

theorem execHRearm_next {s t : State} (h : execHRearm s = .next t) :
    s.sleeping = false ∧ s.quiescent = true ∧
      t = ({ s with adf := false }.setPend .adc false).startConversion := by
  obtain ⟨hs, hq, h⟩ := hostStep_next h
  rw [endStep_awake _ hs] at h
  exact ⟨hs, hq, next_inj h⟩

theorem execHRead_next {a : RegAddr} {s t : State} (h : execHRead a s = .next t) :
    s.sleeping = false ∧ s.quiescent = true ∧ ∃ d, s.regRead a = some d ∧ t = s.emit (.read a d) := by
  obtain ⟨hs, hq, h⟩ := hostStep_next h
  split at h
  · next d hd =>
    rw [endStep_awake _ hs] at h
    exact ⟨hs, hq, d, hd, next_inj h⟩
  · cases h

theorem execHSeten_next {m : BitVec 7} {s t : State} (h : execHSeten m s = .next t) :
    s.sleeping = false ∧ s.quiescent = true ∧ t = s.writeEn m := by
  obtain ⟨hs, hq, h⟩ := hostStep_next h
  rw [endStep_awake _ hs] at h
  exact ⟨hs, hq, next_inj h⟩

theorem execSvcDisp_next {s t : State} (h : execSvcDisp s = .next t) :
    s.nextService = some .disp ∧ s.sleeping = false ∧ t = (s.setPend .disp false).emit (.disp s.dacc) :=
  dispatch_next h

theorem execSvcBtn_next {s t : State} (h : execSvcBtn s = .next t) :
    s.nextService = some .btn ∧ s.sleeping = false ∧ t = (s.setPend .btn false).armDebounce :=
  dispatch_next h

theorem execSvcAdc_next {s t : State} (h : execSvcAdc s = .next t) :
    s.nextService = some .adc ∧ s.sleeping = false ∧
      t = { s.setPend .adc false with adf := true }.startConversion :=
  dispatch_next h

theorem execSvcQed_next {s t : State} (h : execSvcQed s = .next t) :
    s.nextService = some .qed ∧ s.sleeping = false ∧ t = s.decodeEdges :=
  dispatch_next h

theorem execSvcDbt_next {s t : State} (h : execSvcDbt s = .next t) :
    s.nextService = some .dbt ∧ s.sleeping = false ∧ t = (s.setPend .dbt false).confirmDebounce :=
  dispatch_next h

theorem execSvcCtrl_next {s t : State} (h : execSvcCtrl s = .next t) :
    s.nextService = some .ctrl ∧ s.sleeping = false ∧ t = (s.setPend .ctrl false).controlPeriod :=
  dispatch_next h

theorem execSvcObs_next {s t : State} (h : execSvcObs s = .next t) :
    s.nextService = some .obs ∧ s.sleeping = false ∧ t = s.setPend .obs false :=
  dispatch_next h

/-- What one step of a run is: the operation the schedule takes, a refusal, nothing, or stuck. -/
theorem step_next {s t : State} (h : step s = .next t) :
    (∃ i u, s.nextMove = .run i u ∧ exec i u = .next t) ∨ (s.nextMove = .idle ∧ t = s) := by
  unfold step at h
  cases hm : s.nextMove with
  | run i u => exact .inl ⟨i, u, rfl, by simpa [hm] using h⟩
  | refuse r => simp [hm] at h
  | idle => exact .inr ⟨rfl, next_inj (by simpa [hm] using h)⟩
  | stuck => simp [hm] at h

end Sys2Proof.Machine
end

