-- ==== Sys2Proof/Laws/PerInstr.lean ====
section
/-! SUPPORT. The per-instruction family WordClass: the word of an operation carries its class in bit 15 and meets the row
of its own mnemonic, and a service has no word (R71, R82). One lemma per constructor of Instr. -/

namespace Sys2Proof.Laws.WordClass

/-- R71, R82: the word of a host operation has bit 15 set, that of an environment word or SYNC has it clear, a service
has none. -/
def classAgrees (i : Instr) : Bool :=
  match encode i with
  | some w => i.hasWord && isHostClass w == decide (i.role = .host)
  | none => !i.hasWord

/-- The family's statement. -/
abbrev Statement (i : Instr) : Prop := classAgrees i = true

/-- The top bit of a concatenation is the top bit of its left part (R12). -/
theorem append_top {n m : Nat} (x : BitVec (n + 1)) (y : BitVec m) : (x ++ y).getLsbD (n + m) = x.getLsbD n := by
  rw [BitVec.getLsbD_append]
  simp

theorem enc (e : Fin 2) (a b : Bool) : Statement (.enc e a b) := by
  revert e a b
  decide

theorem btn (l : Bool) : Statement (.btn l) := by
  revert l
  decide

theorem adc (v : BitVec 12) : Statement (.adc v) := by
  have h : isHostClass (0b0011#4 ++ v) = false := append_top (n := 3) 0b0011#4 v
  unfold Statement
  simp only [classAgrees, encode, h]
  rfl

theorem tickObs : Statement .tickObs := by decide

theorem tickCtrl : Statement .tickCtrl := by decide

theorem tickDisp : Statement .tickDisp := by decide

theorem dbtFire : Statement .dbtFire := by decide

theorem sync : Statement .sync := by decide

theorem hSample : Statement .hSample := by decide

theorem hGoedge : Statement .hGoedge := by decide

theorem hRecover : Statement .hRecover := by decide

theorem hSleep : Statement .hSleep := by decide

theorem hRearm : Statement .hRearm := by decide

theorem hRead (a : RegAddr) : Statement (.hRead a) := by
  have h : isHostClass (0b1101#4 ++ 0#7 ++ a) = true := append_top (n := 10) (0b1101#4 ++ 0#7) a
  unfold Statement
  simp only [classAgrees, encode, h]
  rfl

theorem hSeten (m : BitVec 7) : Statement (.hSeten m) := by
  have h : isHostClass (0b1110#4 ++ 0#5 ++ m) = true := append_top (n := 8) (0b1110#4 ++ 0#5) m
  unfold Statement
  simp only [classAgrees, encode, h]
  rfl

theorem svcDisp : Statement .svcDisp := rfl

theorem svcBtn : Statement .svcBtn := rfl

theorem svcAdc : Statement .svcAdc := rfl

theorem svcQed : Statement .svcQed := rfl

theorem svcDbt : Statement .svcDbt := rfl

theorem svcCtrl : Statement .svcCtrl := rfl

theorem svcObs : Statement .svcObs := rfl

end Sys2Proof.Laws.WordClass
end

