-- ==== Sys2Proof/Laws/Runs.lean ====
section
/-! SUPPORT. Lemmas about whole steps: what an illegal word does, and how a list of operations runs. -/

namespace Sys2Proof.Machine

/-- The first word of a stream is the first word of its own class. -/
theorem takeFirst_head {p : Word → Bool} {w : Word} (ws : List Word) (h : p w = true) :
    takeFirst p (w :: ws) = some (w, ws) := by
  simp [takeFirst, h]

/-- A word that does not decode is refused X1 (R83). -/
theorem refusedX1_of_error {w : Word} {e : IllegalWord} (h : decode w = .error e) : RefusedX1 w := by
  intro s rest hs
  refine ⟨fun hg hn => ?_, fun ts hg ht => ?_⟩
  · cases hd : s.sched <;> simp_all [step, State.nextMove, State.eagerMove, State.lazyMove, State.dspMove, State.headMove]
  · cases hc : isHostClass w <;>
      simp_all [step, State.nextMove, State.generalMove, State.agentMove, State.classMove, takeFirst, State.wordMove]

/-- Lists of operations run one after the other. -/
theorem execAll_append (is js : List Instr) (s t : State) (h : execAll is s = .next t) :
    execAll (is ++ js) s = execAll js t := by
  induction is generalizing s with
  | nil =>
    cases h
    rfl
  | cons i is ih =>
    simp only [execAll, List.cons_append] at h ⊢
    cases he : exec i s <;> simp_all

end Sys2Proof.Machine
end

