-- ==== Sys2Proof/Tests/Slice0.lean ====
section
/-! SUPPORT. Small tests. Expected values come from 95_test_vectors.md (the vector is named) or are written out bit by
bit from the formats of 30_encoding.md; then a witness for every statement that has hypotheses. -/

namespace Sys2Proof.Tests

open Sys2Proof Sys2Proof.Machine Sys2Proof.Config

/-- The next state of an answer, if it is one. -/
def nextOf : Result → Option State
  | .next s => some s
  | .fault _ => none
  | .refused _ => none

/-- The refusal of an answer, if it is one. -/
def refusalOf : Result → Option Refusal
  | .next _ => none
  | .fault _ => none
  | .refused r => some r

/-- The fault of an answer, if it is one. -/
def faultOf : Result → Option Fault
  | .next _ => none
  | .fault r => some r
  | .refused _ => none

/-- A field of the next state of one operation. -/
def after {α : Type} (i : Instr) (s : State) (f : State → α) : Option α := (nextOf (exec i s)).map f

/-- Reset with every source enabled. -/
def ready : State := { State.reset with en := 0x7F }

/-- Reset, asleep, nothing enabled. -/
def asleep : State := { State.reset with sleeping := true }

/-- `ready` with one latch set. -/
def waiting (src : Source) : State := ready.setPend src true

/-! Decoding: each word written out from its format (R73 to R80). -/

theorem test_decode_enc : decode 0b0001_000_1_000000_1_0 = .ok (.enc 1 true false) := by decide
theorem test_decode_btn : decode 0b0010_00000000000_1 = .ok (.btn true) := by decide
theorem test_decode_adc : decode 0b0011_111000010000 = .ok (.adc 3600) := by decide
theorem test_decode_tick_obs : decode 0b0100_000000000_000 = .ok .tickObs := by decide
theorem test_decode_tick_ctrl : decode 0b0100_000000000_001 = .ok .tickCtrl := by decide
theorem test_decode_tick_disp : decode 0b0100_000000000_010 = .ok .tickDisp := by decide
theorem test_decode_dbt_fire : decode 0b0100_000000000_011 = .ok .dbtFire := by decide
theorem test_decode_sync : decode 0b0111_000000000000 = .ok .sync := by decide
theorem test_decode_sample : decode 0b1000_000000000000 = .ok .hSample := by decide
theorem test_decode_goedge : decode 0b1001_000000000000 = .ok .hGoedge := by decide
theorem test_decode_recover : decode 0b1010_000000000000 = .ok .hRecover := by decide
theorem test_decode_sleep : decode 0b1011_000000000000 = .ok .hSleep := by decide
theorem test_decode_rearm : decode 0b1100_000000000000 = .ok .hRearm := by decide
theorem test_decode_read : decode 0b1101_0000000_00111 = .ok (.hRead 7) := by decide
theorem test_decode_seten : decode 0b1110_00000_0110010 = .ok (.hSeten 0b0110010) := by decide
theorem test_decode_reserved_op : decode 0xF000 = .error .reservedOp ∧ decode 0x0000 = .error .reservedOp := by decide
theorem test_decode_reserved_timer : decode 0x4004 = .error .reservedTimer := by decide
theorem test_decode_reserved_bits : decode 0x4008 = .error .reservedBits ∧ decode 0xE080 = .error .reservedBits := by
  decide
theorem test_encode_words : encode (.enc 1 true true) = some 0x1103 ∧ encode (.adc 3600) = some 0x3E10 ∧
    encode (.hRead 7) = some 0xD007 ∧ encode (.hSeten 0x7F) = some 0xE07F := by decide
/-- No two rows of the opcode map meet one word (R84). -/
theorem test_opcode_rows_disjoint : opcodeMap.Pairwise
    (fun r r' => (r.bits ^^^ r'.bits) &&& r.mask &&& r'.mask ≠ 0) := by decide

/-! Well-formedness smoke tests: one ill-formed term per check. -/

theorem test_wf_refuses_service : ¬ Instr.WellFormed .svcQed := by decide
theorem test_wf_accepts_word : Instr.WellFormed (.hRead 0x1F) := by decide
theorem test_wf_refuses_qtab_range : ({ Params.default with qtab := Params.default.qtab.set 1 2 }).qtabInRange = false := by
  decide
theorem test_wf_refuses_qtab_glitch :
    ({ Params.default with qtab := Params.default.qtab.set 3 1 }).qtabGlitchFree = false := by decide
theorem test_wf_refuses_lbit : ({ Params.default with
    sensors := #v[⟨0, 1, 2, 1⟩, ⟨1, 1, 1, 2⟩, ⟨2, 2, 0, 0⟩] }).lbitPermutes = false := by decide
theorem test_wf_refuses_dbit : ({ Params.default with
    sensors := #v[⟨0, 0, 2, 1⟩, ⟨1, 1, 2, 2⟩, ⟨2, 2, 0, 0⟩] }).dbitPermutes = false := by decide
theorem test_wf_refuses_succ : ({ Params.default with
    sensors := #v[⟨0, 0, 2, 1⟩, ⟨1, 1, 1, 0⟩, ⟨2, 2, 0, 0⟩] }).succCycle = false := by decide
theorem test_wf_accepts_default : Params.default.WellFormed := by decide
/-- OFS = (+1, +1, -2) (R26). -/
theorem test_ofs : (Params.default.ofs 0, Params.default.ofs 1, Params.default.ofs 2) = (1, 1, -2) := by decide

/-! One step per operation. -/

/-- R87's example. -/
theorem test_enc_sets_lines : after (.enc 0 false true) ready (fun t => (t.enc0.lines, t.pend .qed, t.enc1.lines))
    = some (0b01, true, 0b00) := by decide
/-- DSP-11: a disabled QED change does not wake. -/
theorem test_enc_disabled_stays_asleep : after (.enc 0 false true) asleep State.sleeping = some true := by decide
/-- QED-19: the wrap of COUNT. -/
theorem test_svc_qed_wraps : after .svcQed { ready with enc0 := ⟨0b01, 0b0000, 0x7FFF⟩ }
    (fun t => (t.enc0.count, t.enc0.hist, t.enc1)) = some (0x8000, 0b0001, ⟨0, 0, 0⟩) := by decide
/-- QED-10: a glitch counts 0 and the history still moves. -/
theorem test_svc_qed_glitch : after .svcQed { ready with enc1 := ⟨0b01, 0b0110, 5⟩ }
    (fun t => (t.enc1.count, t.enc1.hist)) = some (5, 0b1001) := by decide
/-- R96's example. -/
theorem test_adc_stores : after (.adc 3600) { ready with convBusy := true }
    (fun t => (t.sampleReg, t.convBusy, t.latch.adc)) = some (3600, false, true) := by decide
/-- SEQ-5: refused X3. -/
theorem test_adc_refused_x3 : refusalOf (exec (.adc 100) State.reset) = some .noConversion := by decide
/-- R97's example. -/
theorem test_svc_adc_restarts : after .svcAdc { waiting .adc with nxt := 1 }
    (fun t => (t.adf, t.convBusy, t.convCh, t.log, t.latch.adc)) = some (true, true, 1, [.conv 1], false) := by decide
/-- R98's example: the measured sample of sensor 0. -/
theorem test_sample_measures : after .hSample { ready with adf := true, rc := 1, sampleReg := 3600 }
    (fun t => (t.rc, t.acc, t.dacc, t.nxt, t.adf)) = some (2, 0b001, 0b100, 1, false) := by decide
/-- SEQ-11: adopt the head and publish. -/
theorem test_sample_publishes :
    after .hSample { ready with adf := true, cur := 2, nxt := 0, rc := 2, acc := 0b110, sampleReg := 7 }
      (fun t => (t.cur, t.rc, t.lp, t.acc)) = some (0, 1, 0b110, 0) := by decide
/-- R104's example, with a flagged sample and a waiting completion discarded (SEQ-13). -/
theorem test_rearm : after .hRearm { State.reset with adf := true, latch := { Latches.none with adc := true } }
    (fun t => (t.adf, t.latch.adc, t.convBusy, t.convCh, t.log)) = some (false, false, true, 0, [.conv 0]) := by decide
/-- R109's example. -/
theorem test_btn_latches : after (.btn true) ready (fun t => (t.latch.btn, t.dbDir, t.btnLine))
    = some (true, true, true) := by decide
/-- DSP-10: an enabled edge wakes the block in the same step. -/
theorem test_btn_wakes : after (.btn true) { asleep with en := 0x02 } (fun t => (t.sleeping, t.latch.btn))
    = some (false, true) := by decide
/-- DEB-3: refused X4. -/
theorem test_dbt_refused_x4 : refusalOf (exec .dbtFire ready) = some .notArmed := by decide
/-- R110's example. -/
theorem test_dbt_fires : after .dbtFire { ready with dbtArmed := true } (fun t => (t.dbtArmed, t.latch.dbt))
    = some (false, true) := by decide
/-- DEB-1, first service. -/
theorem test_svc_btn_arms : after .svcBtn { waiting .btn with en := 0x12, dbDir := true }
    (fun t => (t.dbState, t.en, t.dbtArmed, t.latch.btn)) = some (.debouncing, 0x10, true, false) := by decide
/-- R114's example. -/
theorem test_svc_dbt_confirms :
    after .svcDbt { waiting .dbt with en := 0x10, dbState := .debouncing, dbDir := true, btnLine := true }
      (fun t => (t.go, t.dbState, t.en)) = some (true, .idle, 0x12) := by decide
/-- DEB-6, the release: PRESS_ONLY does not toggle on it. -/
theorem test_svc_dbt_press_only :
    after .svcDbt { waiting .dbt with
        en := 0x10, dbState := .debouncing, go := true
        params := { Params.default with toggleOn := .pressOnly true } }
      (fun t => (t.go, t.dbState)) = some (true, .idle) := by decide
/-- R115's example. -/
theorem test_goedge_starts : after .hGoedge { ready with go := true } (fun t => (t.goPrev, t.log))
    = some (true, [.start]) := by decide
/-- R120's example. -/
theorem test_tick_ctrl : after .tickCtrl ready (fun t => t.pendVector) = some 0x20 := by decide
/-- FLT-18: refused X5. -/
theorem test_tick_ctrl_refused_x5 : refusalOf (exec .tickCtrl asleep) = some .clockHalted := by decide
/-- FLT-4: the row 011. -/
theorem test_svc_ctrl_normal :
    after .svcCtrl { waiting .ctrl with go := true, lp := 0b011, lost := 3, stop := 3 }
      (fun t => (t.dutyR, t.dutyL, t.lost, t.stop, t.log)) = some (35, 15, 0, 0, [.duty 35 15]) := by decide
/-- FLT-11: saturation. -/
theorem test_svc_ctrl_saturates : after .svcCtrl { waiting .ctrl with go := true, lost := 255, stop := 3 }
    (fun t => (t.lost, t.stop)) = some (255, 3) := by decide
/-- FLT-17. -/
theorem test_recover : after .hRecover { ready with go := true, goPrev := true, lost := 12, stop := 11 }
    (fun t => (t.go, t.goPrev, t.lost, t.stop)) = some (false, false, 0, 0) := by decide
/-- R132's example. -/
theorem test_tick_obs : after .tickObs ready (fun t => t.pendVector) = some 0x40 := by decide
/-- R133's example. -/
theorem test_tick_disp : after .tickDisp ready (fun t => t.pendVector) = some 0x01 := by decide
/-- DSP-5. -/
theorem test_svc_obs : after .svcObs (waiting .obs) (fun t => t == ready) = some true := by decide
/-- DSP-6. -/
theorem test_svc_disp : after .svcDisp { waiting .disp with dacc := 0b011 } State.log = some [.disp 0b011] := by decide
/-- R136: held until SVC_CTRL has run. -/
theorem test_sync_holds : faultOf (exec .sync (waiting .ctrl)) = some .held := by decide
/-- R136: asleep and quiescent, SYNC is taken and does nothing. -/
theorem test_sync_asleep : after .sync asleep (fun t => t == asleep) = some true := by decide
/-- R137's example. -/
theorem test_read_line : after (.hRead 0x04) { ready with lp := 0b101 } State.log = some [.read 0x04 0x0005] := by decide
/-- DSP-7: refused X6. -/
theorem test_read_refused_x6 : refusalOf (exec (.hRead 0x0D) State.reset) = some .reservedAddress := by decide
/-- R139's example. -/
theorem test_sleep : after .hSleep State.reset (fun t => (t.sleeping, t.log)) = some (true, [.sleep]) := by decide
/-- R140's example. -/
theorem test_seten : after (.hSeten 0x7F) State.reset State.en = some 0x7F := by decide
/-- R111: a change of EN[BTN] clears PEND[BTN]. -/
theorem test_seten_clears_button :
    after (.hSeten 0x02) { State.reset with latch := { Latches.none with btn := true } } (fun t => t.latch.btn)
      = some false := by decide
/-- P1, ENC_STAT. -/
theorem test_enc_stat : ({ State.reset with enc0 := ⟨0b01, 0b1001, 3⟩, enc1 := ⟨0b11, 0b0011, 0⟩ }).encStat = 0x0D39 := by
  decide
/-- P2, SEQ_STAT. -/
theorem test_seq_stat : ({ State.reset with rc := 1, dacc := 0b101, convBusy := true }).seqStat = 0x2A10 := by decide
/-- P3, STATUS after ten and after eleven lost periods. -/
theorem test_status :
    ({ State.reset with go := true, goPrev := true, dbDir := true, btnLine := true, lost := 10 }).statusWord = 0x00AC ∧
    ({ State.reset with go := true, goPrev := true, dbDir := true, btnLine := true, lost := 11 }).statusWord = 0x00AD := by
  decide
/-- DSP-1: the first service of a drain. -/
theorem test_service_order :
    { ready with latch := { Latches.none with disp := true, ctrl := true, obs := true } }.nextService = some .disp := by
  decide
/-- QED-26 and QED-27: what SAMPLED and ZERO leave pending. -/
theorem test_hist_reset :
    (State.resetWith { Params.default with lines0AtReset := 0b01, histReset := .zero }).pend .qed = true ∧
    (State.resetWith { Params.default with lines0AtReset := 0b01 }).enc0.hist = 0b0101 := by decide

/-! Steps and schedulers: one step each. -/

/-- The fetched word runs from reset (R104's example through the host's interface). -/
theorem test_step_runs_fetched_word :
    (nextOf (step (State.reset.withFetchWord 16 0xC000))).map (fun t => (t.log, t.stream)) = some ([.conv 0], []) := by
  decide
theorem test_decode_table_word : decodeTableWord 16 0xD007 = some (.hRead 7) ∧ decodeTableWord 16 0x5000 = none := by
  decide
/-- R141: EAGER services before the next word. -/
theorem test_eager_services_first :
    (nextOf (step { waiting .obs with stream := [0x4001] })).map (fun t => (t.pendVector, t.stream)) = some (0, [0x4001]) := by
  decide
/-- R141: LAZY applies the next environment word first. -/
theorem test_lazy_words_first :
    (nextOf (step { waiting .obs with stream := [0x4001], sched := .lazy })).map (fun t => (t.pendVector, t.stream))
      = some (0x60, []) := by decide
/-- DSP-12: LAZY, a read holds until SVC_CTRL has run. -/
theorem test_lazy_read_waits :
    (nextOf (step { waiting .ctrl with stream := [0xD006], sched := .lazy })).map (fun t => (t.pendVector, t.stream))
      = some (0, [0xD006]) := by decide
/-- DSP-11: a host word while asleep under a trace scheduler is refused X2. -/
theorem test_trace_refused_x2 : refusalOf (step { asleep with stream := [0x8000] }) = some .hostWhileAsleep := by decide
/-- R161: under the general relation the same word waits, and the environment goes on. -/
theorem test_general_host_waits :
    (nextOf (step { asleep with stream := [0x8000, 0x1001], sched := .general, turns := [.host] })).map
      (fun t => (t.enc0.lines, t.stream)) = some (0b01, [0x8000]) := by decide
theorem test_illegal_refused_x1 : refusalOf (step { State.reset with stream := [0x1004] }) = some .illegalWord := by decide
/-- 93 section 4: asleep with nothing left is stuck. -/
theorem test_asleep_is_stuck : faultOf (step asleep) = some .stuck := by decide
/-- R85: an assembled line with a brace list (characters 123 and 125) and a comment. -/
theorem test_assemble : assembleLine ("seten ".toList ++ [Char.ofNat 123] ++ "btn, dbt, ctrl".toList ++ [Char.ofNat 125]
    ++ " ; P3".toList) = some [0xE032] := by decide
theorem test_assemble_read : assembleLine "read STATUS".toList = some [0xD007] ∧
    assembleLine "enc 0, 0b01".toList = some [0x1001] := by decide
/-- R142: LOST is checked before STOP. -/
theorem test_recovery_order : recoveryOps 0x00AF = [.hRecover] := by decide

/-! Witnesses: a concrete state and operands that meet the hypotheses of each statement that has any, one for each of
its clauses. -/

/-- `ready` with the first encoder changed. -/
def turned : State := { ready with enc0 := ⟨0b01, 0b0000, 0⟩ }

theorem witness_DecodeOfEncode : Instr.WellFormed (.enc 1 true false) := by decide
theorem witness_EncodeOfDecode : decode 0x1102 = .ok (.enc 1 true false) := by decide
/-- One word of each clause of R83's list. -/
theorem witness_UnmatchedWords :
    ([0x0000, 0x0FFF, 0x5000, 0x6FFF, 0xF000, 0x4004, 0x4007, 0x4008, 0x1004, 0x1200, 0x2002, 0x7001, 0x8001, 0xC800,
      0xD020, 0xE080] : List Word).all (fun w => opcodeMap.all fun r => !r.meets w) = true := by decide
/-- `RefusedX1`: a trace scheduler with no service left, and the turn of the agent of the word's class. -/
theorem witness_RefusedX1 :
    ({ State.reset with stream := [0x5000] }).sched ≠ .general ∧
      ({ State.reset with stream := [0x5000] }).nextService = none ∧
      ({ State.reset with stream := [0xF000], sched := .general, turns := [.host] }).turns =
        [if isHostClass 0xF000 then .host else .env] := by decide
/-- A word of each format with a reserved bit set, as the operations' statements name them. -/
theorem witness_IllegalOfFormat :
    ((0x1004#16).extractLsb' 12 4 = 0x1 ∧ 0x1004#16 &&& 0xFEFC ≠ 0x1000) ∧
    ((0x2002#16).extractLsb' 12 4 = 0x2 ∧ 0x2002#16 &&& 0xFFFE ≠ 0x2000) ∧
    ((0x4008#16).extractLsb' 12 4 = 0x4 ∧ ((0x4008#16).extractLsb' 0 3).toNat < 3) ∧
    ((0x400B#16).extractLsb' 0 3 = 3 ∧ (0x8001#16).extractLsb' 12 4 = 0x8) ∧
    ((0xD020#16).extractLsb' 5 7 ≠ 0 ∧ (0xE080#16).extractLsb' 7 5 ≠ 0) := by decide
theorem witness_StepRunsWord_eager :
    decode 0xC000 = .ok .hRearm ∧ ready.stepEnabled .hRearm = true ∧ ready.sched = .eager ∧ ready.nextService = none := by
  decide
theorem witness_StepRunsWord_lazy :
    decode 0x4001 = .ok .tickCtrl ∧ (waiting .obs).stepEnabled .tickCtrl = true ∧
      ({ waiting .obs with sched := .lazy }).sched = .lazy := by decide
theorem witness_StepRunsFetchedWord :
    decodeTableWord 16 0x8000 = some .hSample ∧ State.reset.stepEnabled .hSample = true := by decide
theorem witness_TakeService : (waiting .ctrl).nextService = some .ctrl ∧ (waiting .ctrl).sched = .eager ∧
    (waiting .ctrl).stream = [] ∧ decode 0xD006 = .ok (.hRead 6) ∧ (waiting .ctrl).stepEnabled (.hRead 6) = false := by
  decide
/-- A stream of a host word and an environment word; each agent's first word is enabled. -/
theorem witness_AnyAgent : isHostClass 0x8000 = true ∧ isHostClass 0x4000 = false ∧ decode 0x8000 = .ok .hSample ∧
    decode 0x4000 = .ok .tickObs ∧ ready.stepEnabled .hSample = true ∧ ready.stepEnabled .tickObs = true ∧
    ({ waiting .obs with sched := .general }).nextService = some .obs := by decide
theorem witness_Stuck : asleep.SleepQuiet ∧ asleep.sleeping = true := by decide
theorem witness_Inv : ready.Inv ∧ asleep.Inv ∧ turned.Inv := by decide
theorem witness_StepKeepsInv : ∃ t, turned.Inv ∧ step turned = .next t := ⟨_, by decide, rfl⟩
theorem witness_Reachable : Reachable State.reset :=
  Reachable.start Params.default [] .eager [] (by decide)
theorem witness_InvHoldsAtReset : Params.default.WellFormed := by decide
theorem witness_EdgeClosed : ∃ t, ready.EdgeClosedWhileDebouncing ∧ exec (.hSeten 0x10) ready = .next t ∧
    ready.dbState = .idle := ⟨_, by decide, rfl, by decide⟩
/-- LogOnlyGrows and the five writers' statements: an operation that runs and is none of the excepted ones. -/
theorem witness_Writers : ∃ t, exec (.hRead 0) ready = .next t := ⟨_, rfl⟩
theorem witness_ButtonEnable : ∃ t, exec (.hSeten 0) ready = .next t ∧ t.enabled .btn ≠ ready.enabled .btn :=
  ⟨_, rfl, by decide⟩
/-- A state that meets the two hypotheses of EncSetsTheLines for encoder 0 awake, and one asleep that wakes. -/
theorem witness_Enc : ({ asleep with en := 0x08, enc0 := { asleep.enc0 with lines := BitVec.ofBool false ++ BitVec.ofBool true } }
    : State).quiescent = false := by decide
theorem witness_SvcQed : turned.nextService = some .qed := by decide
theorem witness_Quadrature : ∃ t, turned.params.qtab = qtabDefault ∧ exec .svcQed turned = .next t ∧
    (turned.encoder 0).hist.extractLsb' 0 2 = 0b00 ∧ (turned.encoder 0).lines = forwardStep 0b00 :=
  ⟨_, by decide, rfl, by decide, by decide⟩
theorem witness_Quadrature_reverse_glitch : reverseStep 0b11 = 0b01 ∧ ~~~(0b11#2) = 0b00 := by decide
theorem witness_CleanCycles : ready.params.qtab = qtabDefault ∧ ready.sleeping = false ∧ ready.quiescent = true ∧
    ready.enabled .qed = true ∧ (ready.encoder 0).lines = 0b00 ∧ (ready.encoder 1).lines = 0b00 := by decide
theorem witness_Adc : asleep.sleeping = true ∧ (ready.sleeping = false ∧ ready.convBusy = false) ∧
    ({ ready with convBusy := true }).convBusy = true := by decide
theorem witness_SvcAdc : (waiting .adc).nextService = some .adc := by decide
/-- No flag; adoption at the head; adoption elsewhere; settling. -/
theorem witness_SampleAdopts : (waiting .obs).hostEnabled = false ∧ (ready.hostEnabled = true ∧ ready.adf = false) ∧
    (({ ready with adf := true, cur := 2, nxt := 0, rc := 2 } : State).hostEnabled = true) ∧
    (({ ready with adf := true, cur := 0, nxt := 1, rc := 2 } : State).hostEnabled = true) ∧
    (({ ready with adf := true, rc := 0 } : State).hostEnabled = true) := by decide
theorem witness_SampleMeasures : ({ ready with adf := true, rc := 1 } : State).hostEnabled = true ∧
    ready.nxt = ready.cur := by decide
theorem witness_HostEnabled : ready.hostEnabled = true ∧ (waiting .ctrl).hostEnabled = false ∧
    asleep.hostEnabled = false := by decide
theorem witness_LinePattern : ∃ t,
    exec .hSample { ready with adf := true, cur := 2, nxt := 0, rc := 2, acc := 0b110 } = .next t ∧ t.lp ≠ ready.lp :=
  ⟨_, rfl, by decide⟩
/-- Both starts of a round: after reset, and after a full round. -/
theorem witness_Round : ready.params.WellFormed ∧ ready.quiescent = true ∧ ready.enabled .adc = true ∧
    ready.nxt = ready.params.head ∧ ready.cur = ready.params.head ∧ ready.rc = 0 ∧
    ({ ready with convBusy := true, cur := 2, rc := 2 } : State).cur ≠ ready.params.head ∧
    ({ ready with convBusy := true, cur := 2, rc := 2 } : State).quiescent = true := by decide
/-- An edge that is latched; and one that is not, with EN[BTN] = 0. -/
theorem witness_Btn : (ready.enabled .btn = true ∧ ready.pend .btn = false ∧ true ≠ ready.btnLine) ∧
    ¬(State.reset.enabled .btn = true ∧ State.reset.pend .btn = false ∧ true ≠ State.reset.btnLine) := by decide
theorem witness_DbtFire : asleep.sleeping = true ∧ ready.dbtArmed = false ∧
    ({ ready with dbtArmed := true } : State).sleeping = false := by decide
theorem witness_SvcBtn : (waiting .btn).nextService = some .btn := by decide
/-- Debouncing and confirmed (`g` true), under both parameter values, and idle. -/
theorem witness_SvcDbt : (waiting .dbt).nextService = some .dbt ∧ (waiting .dbt).dbState = .idle ∧
    ({ waiting .dbt with dbState := .debouncing } : State).nextService = some .dbt ∧
    (waiting .dbt).btnLine = (waiting .dbt).dbDir ∧ (waiting .dbt).params.toggleOn = .both := by decide
theorem witness_Goedge : ready.go = ready.goPrev ∧ ({ ready with go := true } : State).hostEnabled = true ∧
    ({ ready with goPrev := true } : State).hostEnabled = true := by decide
theorem witness_Debounce : ready.params.toggleOn = .both ∧ ready.sleeping = false ∧ ready.quiescent = true ∧
    ready.enabled .btn = true ∧ ready.enabled .dbt = true ∧ true ≠ ready.btnLine := by decide
theorem witness_Ticks : asleep.sleeping = true ∧ ready.sleeping = false ∧ ∃ t, exec .tickObs ready = .next t :=
  ⟨by decide, by decide, _, rfl⟩
theorem witness_ControlPeriod_normal : ({ waiting .ctrl with go := true, lp := 0b110 } : State).nextService = some .ctrl ∧
    (0b110#3, 15#8, 35#8) ∈ [(0b001#3, 50#8, 0#8), (0b010#3, 25#8, 25#8), (0b011#3, 35#8, 15#8), (0b100#3, 0#8, 50#8),
      (0b110#3, 15#8, 35#8)] := by decide
/-- Gated; and the three fault patterns of a running block. -/
theorem witness_ControlPeriod_fault : ((waiting .ctrl).go = false ∧ (waiting .ctrl).params.ctrlGated = true) ∧
    ({ waiting .ctrl with go := true, lp := 0b000 } : State).nextService = some .ctrl ∧
    ({ waiting .ctrl with go := true, lp := 0b101 } : State).nextService = some .ctrl ∧
    ({ waiting .ctrl with go := true, lp := 0b111 } : State).nextService = some .ctrl := by decide
theorem witness_Eleventh : ({ ready with go := true } : State).quiescent = true ∧ ready.sleeping = false ∧
    ready.enabled .ctrl = true ∧ ready.lp = 0b000 ∧ ready.lost = 0 ∧
    ({ ready with go := true, lp := 0b111 } : State).quiescent = true ∧ ready.stop = 0 := by decide
theorem witness_DisplayObservation : (waiting .obs).nextService = some .obs ∧ (waiting .disp).nextService = some .disp := by
  decide
theorem witness_Sync : asleep.quiescent = true ∧ ready.quiescent = true ∧ (waiting .ctrl).quiescent = false := by decide
/-- The last defined and the first reserved address. -/
theorem witness_Read : ready.hostEnabled = true ∧ (0x0C#5).toNat ≤ 0x0C ∧ 0x0D ≤ (0x0D#5).toNat := by decide
theorem witness_Sleep : Instr.role (.hRead 0x00) = .host ∧ Instr.role .svcObs = .service .obs ∧ asleep.sleeping = true := by
  decide
theorem witness_Seten : ready.en.getLsbD 1 = (0x7F#7).getLsbD 1 ∧ ready.en.getLsbD 1 ≠ (0x7D#7).getLsbD 1 := by decide
theorem witness_HighOverLow : sourceLevel .btn = .high ∧ sourceLevel .adc = .low ∧
    (waiting .btn).serviceable .btn = true := by decide
theorem witness_Drain : (waiting .obs).sleeping = false ∧ (waiting .obs).stream = [] := by decide
theorem witness_Wake : ∃ t, asleep.sleeping = true ∧ exec (.btn true) { asleep with en := 0x02 } = .next t ∧
    t.sleeping = false := ⟨_, by decide, rfl, by decide⟩
theorem witness_NoWakeSource : ∃ t, asleep.SleepQuiet ∧ asleep.enabled .btn = false ∧ asleep.enabled .qed = false ∧
    step { asleep with stream := [0x1001] } = .next t := ⟨_, by decide, by decide, by decide, rfl⟩

end Sys2Proof.Tests
end

section
/-! The fault counters' trips (R34): each is `trips` of its own counter, so the rule about the shared comparison,
`trips_iff`, says when each of them holds. -/
namespace Sys2Proof.Machine

/-- TRIP_LOST reads LOST alone (R34). -/
theorem State.tripLost_iff (s : State) : s.tripLost = true ↔ 11 ≤ s.lost.toNat := trips_iff s.lost

/-- TRIP_STOP reads STOP alone (R34). -/
theorem State.tripStop_iff (s : State) : s.tripStop = true ↔ 11 ≤ s.stop.toNat := trips_iff s.stop

/-- Settles O20: it holds, by the rule of each trip; above ten and at least eleven are the same bound on a natural
number (`Nat.succ_le_iff`). -/
theorem tripsHoldExactlyAboveTen : Obligations.TripsHoldExactlyAboveTen := by
  intro s
  have lost_above : s.tripLost = true ↔ s.lost.toNat > 10 := s.tripLost_iff.trans Nat.succ_le_iff
  have stop_above : s.tripStop = true ↔ s.stop.toNat > 10 := s.tripStop_iff.trans Nat.succ_le_iff
  exact ⟨lost_above, stop_above, s.tripLost_iff, s.tripStop_iff⟩

end Sys2Proof.Machine
end

section
/-! Encoding: the words of the operations that carry an operand, as their fixed bits with the operand in the low bits
(R74, R75, R80), and the expansions of the pseudo-operations (R86). -/
namespace Sys2Proof

/-- Fixed bits followed by an operand are the fixed bits with the operand in the low bits (R12). -/
theorem append_eq_or_zeroExtend {n m : Nat} (fixed : BitVec n) (operand : BitVec m) :
    fixed ++ operand = (fixed ++ 0#m) ||| operand.zeroExtend (n + m) := by
  refine BitVec.eq_of_getLsbD_eq fun j hj => ?_
  rw [BitVec.getLsbD_or, BitVec.getLsbD_append, BitVec.getLsbD_append, BitVec.getLsbD_setWidth]
  by_cases hm : j < m
  · simp [hm, hj]
  · simp [hm, BitVec.getLsbD_of_ge operand j (by omega)]

theorem encode_adc (v : BitVec 12) : encode (.adc v) = some (0x3000#16 ||| v.zeroExtend 16) :=
  congrArg some (append_eq_or_zeroExtend 0b0011#4 v)

theorem encode_hSeten (m : BitVec 7) : encode (.hSeten m) = some (0xE000#16 ||| m.zeroExtend 16) :=
  congrArg some (append_eq_or_zeroExtend (0b1110#4 ++ 0#5) m)

theorem encode_btn (l : Bool) : encode (.btn l) = some (if l then 0x2001 else 0x2000) := by
  cases l <;> rfl

namespace Machine

/-- The words of a list of operations begin with the word of its first operation. -/
theorem encodeAll_cons {i : Instr} {is : List Instr} {w : Word} {ws : List Word} (hw : encode i = some w)
    (hws : encodeAll is = some ws) : encodeAll (i :: is) = some (w :: ws) := by
  simp only [encodeAll, hw, hws]

/-- Repeating an operation repeats its word. -/
theorem encodeAll_replicate {i : Instr} {w : Word} (hw : encode i = some w) (n : Nat) :
    encodeAll (List.replicate n i) = some (List.replicate n w) := by
  induction n with
  | zero => rfl
  | succ n ih => exact encodeAll_cons hw ih

/-- A reverse step undoes a forward step (R86, R90). -/
@[simp] theorem reverseStep_forwardStep (lines : BitVec 2) : reverseStep (forwardStep lines) = lines := by
  revert lines
  decide

/-- `qrev` from F of a state is ENC back to that state (R86). -/
theorem qrevOps_forwardStep (e : Fin 2) (lines : BitVec 2) : qrevOps e (forwardStep lines) = [encTo e lines] := by
  rw [qrevOps, reverseStep_forwardStep]

/-- Settles O6: it holds; each expansion is read off word by word (`encodeAll_cons`), `ctrl` by induction on its count
(`encodeAll_replicate`), and `qrev` undoes `qfwd` because the reverse step undoes F. -/
theorem pseudoOperationsExpandAsListed : Obligations.PseudoOperationsExpandAsListed := by
  refine ⟨fun m => ?boot, ?poll, fun l => ?confirm, fun n => ?ctrl, fun v1 v2 => ?pair,
    fun e l => ⟨rfl, ?qrev⟩, ?cycle⟩
  case boot => exact encodeAll_cons (encode_hSeten m) rfl
  case poll => rfl
  case confirm => exact encodeAll_cons (encode_btn l) rfl
  case ctrl => exact encodeAll_replicate rfl n
  case pair =>
    have second : encodeAll [.adc v2, .hSample] = some [0x3000#16 ||| v2.zeroExtend 16, 0x8000] :=
      encodeAll_cons (encode_adc v2) rfl
    exact encodeAll_cons (encode_adc v1) (encodeAll_cons rfl second)
  case qrev => exact qrevOps_forwardStep e l
  case cycle => decide

end Machine

end Sys2Proof
end

section
/-! Decoding against the opcode map (R82, R84): a word meets a row exactly when it decodes to an operation of that
row's mnemonic. Since the mnemonics of the map are distinct, no word meets two rows. -/
namespace Sys2Proof

/-- A row fixes every field of the word that lies under its mask (R82). -/
theorem OpcodeRow.field_of_meets {r : OpcodeRow} {w : Word} (start len : Nat) (hw : r.meets w = true)
    (hmask : r.mask.extractLsb' start len = BitVec.allOnes len) :
    w.extractLsb' start len = r.bits.extractLsb' start len := by
  have hbits : w &&& r.mask = r.bits := eq_of_beq hw
  rw [← hbits, BitVec.extractLsb'_and, hmask, BitVec.and_allOnes]

/-- The bits under a row's mask at which the row is 0 are 0 in the word (R82, R83). -/
theorem OpcodeRow.zeros_of_meets {r : OpcodeRow} {w zeros : Word} (hw : r.meets w = true)
    (hmask : r.mask &&& zeros = zeros) (hzero : r.bits &&& zeros = 0) : w &&& zeros = 0 := by
  have hbits : w &&& r.mask = r.bits := eq_of_beq hw
  rw [← hmask, ← BitVec.and_assoc, hbits, hzero]

/-- A row without an operand is met by one word only (R82). -/
theorem OpcodeRow.eq_bits_of_meets {r : OpcodeRow} {w : Word} (hw : r.meets w = true) (hmask : r.mask = 0xFFFF) :
    w = r.bits := by
  have hbits : w &&& r.mask = r.bits := eq_of_beq hw
  rw [← hbits, hmask]
  exact BitVec.and_allOnes.symm

/-- The reserved-zero check passes exactly when the bits are 0, and keeps the operation (R84). -/
theorem checkZeros_eq_ok_iff {w zeros : Word} {i j : Instr} :
    checkZeros w zeros i = .ok j ↔ w &&& zeros = 0 ∧ i = j := by
  unfold checkZeros
  split <;> simp_all

/-- The bits of OP in place: w[15:12] over zeros (R71). -/
theorem and_opMask (w : Word) : w &&& 0xF000 = w.extractLsb' 12 4 ++ 0#12 := by
  refine BitVec.eq_of_getLsbD_eq fun j hj => ?_
  rw [BitVec.getLsbD_and, BitVec.getLsbD_append]
  interval_cases j <;> simp

/-- The bits of T in place: zeros over w[2:0] (R76). -/
theorem and_timerMask (w : Word) : w &&& 0x0007 = 0#13 ++ w.extractLsb' 0 3 := by
  refine BitVec.eq_of_getLsbD_eq fun j hj => ?_
  rw [BitVec.getLsbD_and, BitVec.getLsbD_append]
  interval_cases j <;> simp

/-- A word of the given OP whose reserved bits are 0, under the mask of its format (R82). -/
theorem and_mask_of_op {w zeros : Word} (op : BitVec 4) (hop : (w.extractLsb' 12 4).toNat = op.toNat)
    (hzeros : w &&& zeros = 0) : w &&& (0xF000 ||| zeros) = op ++ 0#12 := by
  rw [BitVec.and_or_distrib_left, and_opMask, hzeros, BitVec.eq_of_toNat_eq hop]
  exact BitVec.or_zero

/-- A word of the given OP and T whose reserved bits are 0, under the mask of E-TICK (R76, R82). -/
theorem and_mask_of_timer {w zeros : Word} (op : BitVec 4) (timer : BitVec 3)
    (hop : (w.extractLsb' 12 4).toNat = op.toNat) (ht : (w.extractLsb' 0 3).toNat = timer.toNat)
    (hzeros : w &&& zeros = 0) : w &&& (0xF000 ||| zeros ||| 0x0007) = (op ++ 0#12) ||| (0#13 ++ timer) := by
  rw [BitVec.and_or_distrib_left, and_mask_of_op op hop hzeros, and_timerMask, BitVec.eq_of_toNat_eq ht]

/-- The row of an operation in the opcode map, found by its mnemonic (R82). -/
def Instr.row? (i : Instr) : Option OpcodeRow := opcodeMap.find? fun r => r.mnemonic == i.mnemonic

/-- The row of an operation is a row of the map and bears its mnemonic. -/
theorem Instr.row?_spec {i : Instr} {r : OpcodeRow} (h : i.row? = some r) :
    r ∈ opcodeMap ∧ r.mnemonic = i.mnemonic :=
  ⟨List.mem_of_find?_eq_some h, eq_of_beq (List.find?_some (p := fun r : OpcodeRow => r.mnemonic == i.mnemonic) h)⟩

/-- One format: where the words that pass its check meet the row of its operation, so does a word that decodes to it
(R84). -/
theorem meets_row_of_checkZeros {w zeros : Word} {i j : Instr} {r : OpcodeRow} (hd : checkZeros w zeros i = .ok j)
    (hrow : i.row? = some r) (hmeets : w &&& zeros = 0 → w &&& r.mask = r.bits) :
    ∃ r, j.row? = some r ∧ r.meets w = true := by
  obtain ⟨hzeros, rfl⟩ := checkZeros_eq_ok_iff.mp hd
  exact ⟨r, hrow, beq_iff_eq.mpr (hmeets hzeros)⟩

/-- E-TICK: the timer's operation has a row, and the word meets it (R76, R84). -/
theorem meets_row_of_decodeTick {w : Word} {i : Instr} (hop : (w.extractLsb' 12 4).toNat = 0x4)
    (hd : decodeTick w = .ok i) : ∃ r, i.row? = some r ∧ r.meets w = true := by
  unfold decodeTick at hd
  split at hd
  case h_1 ht => exact meets_row_of_checkZeros hd rfl (and_mask_of_timer 0x4 0 hop ht)
  case h_2 ht => exact meets_row_of_checkZeros hd rfl (and_mask_of_timer 0x4 1 hop ht)
  case h_3 ht => exact meets_row_of_checkZeros hd rfl (and_mask_of_timer 0x4 2 hop ht)
  case h_4 ht => exact meets_row_of_checkZeros hd rfl (and_mask_of_timer 0x4 3 hop ht)
  case h_5 => cases hd

/-- The operation a word decodes to has a row, and the word meets it (R84). -/
theorem meets_row_of_decode {w : Word} {i : Instr} (hd : decode w = .ok i) :
    ∃ r, i.row? = some r ∧ r.meets w = true := by
  unfold decode at hd
  split at hd
  case h_1 hop => exact meets_row_of_checkZeros hd rfl (and_mask_of_op 0x1 hop)
  case h_2 hop => exact meets_row_of_checkZeros hd rfl (and_mask_of_op 0x2 hop)
  case h_3 hop =>
    cases hd
    exact ⟨_, rfl, beq_iff_eq.mpr (and_mask_of_op 0x3 hop BitVec.and_zero)⟩
  case h_4 hop => exact meets_row_of_decodeTick hop hd
  case h_5 hop => exact meets_row_of_checkZeros hd rfl (and_mask_of_op 0x7 hop)
  case h_6 hop => exact meets_row_of_checkZeros hd rfl (and_mask_of_op 0x8 hop)
  case h_7 hop => exact meets_row_of_checkZeros hd rfl (and_mask_of_op 0x9 hop)
  case h_8 hop => exact meets_row_of_checkZeros hd rfl (and_mask_of_op 0xA hop)
  case h_9 hop => exact meets_row_of_checkZeros hd rfl (and_mask_of_op 0xB hop)
  case h_10 hop => exact meets_row_of_checkZeros hd rfl (and_mask_of_op 0xC hop)
  case h_11 hop => exact meets_row_of_checkZeros hd rfl (and_mask_of_op 0xD hop)
  case h_12 hop => exact meets_row_of_checkZeros hd rfl (and_mask_of_op 0xE hop)
  case h_13 => cases hd

/-- The one word of a row without an operand decodes to that row's operation (R82). -/
theorem decode_bits_of_fixed_row : ∀ r ∈ opcodeMap, r.mask = 0xFFFF →
    (decode r.bits).map Instr.mnemonic = .ok r.mnemonic := by
  decide

/-- The rows with an operand (R82). -/
theorem operand_row_cases : ∀ r ∈ opcodeMap, r.mask ≠ 0xFFFF →
    r = ⟨"ENC", 0x1000, 0xFEFC⟩ ∨ r = ⟨"BTN", 0x2000, 0xFFFE⟩ ∨ r = ⟨"ADC", 0x3000, 0xF000⟩ ∨
      r = ⟨"H_READ", 0xD000, 0xFFE0⟩ ∨ r = ⟨"H_SETEN", 0xE000, 0xFF80⟩ := by
  decide

/-- A word that meets a row passes the reserved-zero check of the row's format (R83, R84). -/
theorem checkZeros_of_meets {r : OpcodeRow} {w zeros : Word} (i : Instr) (hw : r.meets w = true)
    (hmask : r.mask &&& zeros = zeros) (hzero : r.bits &&& zeros = 0) : checkZeros w zeros i = .ok i :=
  checkZeros_eq_ok_iff.mpr ⟨OpcodeRow.zeros_of_meets hw hmask hzero, rfl⟩

/-- A word that meets a row decodes to an operation of that row's mnemonic (R84). -/
theorem decode_mnemonic_of_meets {r : OpcodeRow} {w : Word} (hr : r ∈ opcodeMap) (hw : r.meets w = true) :
    (decode w).map Instr.mnemonic = .ok r.mnemonic := by
  by_cases hfixed : r.mask = 0xFFFF
  · rw [OpcodeRow.eq_bits_of_meets hw hfixed]
    exact decode_bits_of_fixed_row r hr hfixed
  · have hop := OpcodeRow.field_of_meets 12 4 hw
    obtain rfl | rfl | rfl | rfl | rfl := operand_row_cases r hr hfixed <;> rw [decode, hop rfl]
    -- ADC alone has no reserved bit to check.
    case inr.inr.inl => rfl
    case inl | inr.inl | inr.inr.inr.inl | inr.inr.inr.inr => exact congrArg _ (checkZeros_of_meets _ hw rfl rfl)

/-- No two rows of the map have the same mnemonic (R82). -/
theorem opcodeMap_mnemonics_nodup : (opcodeMap.map OpcodeRow.mnemonic).Nodup := by decide

/-- The rows that the word of an operation meets: its own and no other (R84). -/
theorem met_mnemonics_of_decode {w : Word} {i : Instr} (hd : decode w = .ok i) :
    (opcodeMap.filter fun r => r.meets w).map OpcodeRow.mnemonic = [i.mnemonic] := by
  have nodup : ((opcodeMap.filter fun r => r.meets w).map OpcodeRow.mnemonic).Nodup :=
    opcodeMap_mnemonics_nodup.sublist (List.filter_sublist.map _)
  refine List.perm_singleton.mp ((List.perm_ext_iff_of_nodup nodup (List.nodup_singleton _)).mpr fun name => ?_)
  simp only [List.mem_map, List.mem_filter, List.mem_singleton]
  constructor
  · rintro ⟨r, ⟨hr, hw⟩, rfl⟩
    have decoded := decode_mnemonic_of_meets hr hw
    rw [hd] at decoded
    exact (Except.ok.inj decoded).symm
  · rintro rfl
    obtain ⟨r, hrow, hw⟩ := meets_row_of_decode hd
    obtain ⟨hr, hname⟩ := Instr.row?_spec hrow
    exact ⟨r, ⟨hr, hw⟩, hname⟩

/-- An illegal word meets no row (R83, R84). -/
theorem no_row_met_of_illegal {w : Word} {e : IllegalWord} (hd : decode w = .error e) :
    opcodeMap.filter (fun r => r.meets w) = [] := by
  refine List.filter_eq_nil_iff.mpr fun r hr hw => ?_
  have decoded := decode_mnemonic_of_meets hr hw
  rw [hd] at decoded
  cases decoded

/-- Settles O3: it holds, since decoding is total and a row is met exactly by the words that decode to its mnemonic. -/
theorem wordDecodesToExactlyOneRowOrIsIllegal : Obligations.WordDecodesToExactlyOneRowOrIsIllegal := by
  intro w
  cases hd : decode w with
  | ok i => exact .inl ⟨i, rfl, met_mnemonics_of_decode hd⟩
  | error e => exact .inr ⟨e, rfl, no_row_met_of_illegal hd⟩

end Sys2Proof
end

section
/-! SVC_QED (R89): what the service does to one encoder, by whether its lines differ from its newest history, and what
the selected dispatch step makes of the state. -/
namespace Sys2Proof.Machine

open Sys2Proof.Config

/-- QPEND is the lines differing from HIST[1:0] (R25). -/
theorem Encoder.changed_iff (c : Encoder) : c.changed = true ↔ c.lines ≠ c.hist.extractLsb' 0 2 := bne_iff_ne

/-- With its lines equal to HIST[1:0] an encoder is untouched (R89). -/
theorem Encoder.decodeEdge_of_lines_eq {c : Encoder} (p : Params) (h : c.lines = c.hist.extractLsb' 0 2) :
    c.decodeEdge p = c := by
  obtain ⟨changed, -⟩ | ⟨-, untouched⟩ := c.decodeEdge_cases p
  · exact absurd h (c.changed_iff.mp changed)
  · exact untouched

/-- On an edge the history becomes `prev ++ new` and QTAB's entry at it is added to the count (R89). -/
theorem Encoder.decodeEdge_of_lines_ne {c : Encoder} (p : Params) (h : c.lines ≠ c.hist.extractLsb' 0 2) :
    c.decodeEdge p = ⟨c.lines, c.hist.extractLsb' 0 2 ++ c.lines,
      BitVec.ofInt 16 (c.count.toInt + qtabAt p (c.hist.extractLsb' 0 2 ++ c.lines))⟩ := by
  obtain ⟨-, updated⟩ | ⟨unchanged, -⟩ := c.decodeEdge_cases p
  · exact updated
  · exact absurd (c.changed_iff.mpr h) (Bool.eq_false_iff.mp unchanged)

/-- SVC_QED treats each encoder on its own (R89). -/
theorem State.decodeEdges_encoder (s : State) (e : Fin 2) :
    s.decodeEdges.encoder e = (s.encoder e).decodeEdge s.params := by
  fin_cases e <;> rfl

/-- After SVC_QED neither encoder has a pending change (R89, R25). -/
theorem State.decodeEdges_pend_qed (s : State) : s.decodeEdges.pend .qed = false := by
  simp [State.pend, State.qedPend]

/-- The selected SVC_QED is its pseudocode alone, since QED has no latch to clear (R89, R151). -/
theorem exec_svcQed_selected {s : State} (h : s.nextService = some .qed) : exec .svcQed s = .next s.decodeEdges :=
  dispatch_selected State.decodeEdges h

/-- Settles O30: it holds; the step is `State.decodeEdges`, and each encoder's part of it is read off by whether its
lines differ from its newest history. The count wraps as `BitVec.toInt_ofInt` says. -/
theorem svcQedUpdatesTheChangedEncoders : Obligations.SvcQedUpdatesTheChangedEncoders := by
  refine ⟨rfl, fun s selected =>
    ⟨s.decodeEdges, exec_svcQed_selected selected, rfl, s.decodeEdges_pend_qed, fun e => ?_⟩⟩
  rw [s.decodeEdges_encoder e]
  constructor
  · intro edge
    rw [Encoder.decodeEdge_of_lines_ne s.params edge]
    exact ⟨rfl, rfl, BitVec.toInt_ofInt _⟩
  · exact Encoder.decodeEdge_of_lines_eq s.params

end Sys2Proof.Machine
end

section
/-! The sample sequencer (R96 to R103): the answers of ADC and SVC_ADC, and H_SAMPLE on the second reading of the loaded
sensor. -/
namespace Sys2Proof.Machine

/-- Asleep, a clocked word is refused X5 (R159). -/
theorem clockedStep_asleep {s : State} (body : State → Result) (asleep : s.sleeping = true) :
    clockedStep s body = .refused .clockHalted := if_pos asleep

/-- An enabled H_SAMPLE is its pseudocode (R98, R150). -/
theorem exec_hSample_enabled {s : State} (enabled : s.hostEnabled = true) :
    exec .hSample s = .next s.runSequencer := by
  obtain ⟨runs, awake, -⟩ := hostStep_enabled (fun u => endStep u u.runSequencer) enabled
  exact runs.trans (endStep_awake _ awake)

/-- With the ring not advanced there is nothing to adopt (R99). -/
theorem State.seqAdopt_of_nxt_eq_cur {s : State} (same : s.nxt = s.cur) : s.seqAdopt = s := by
  obtain ⟨-, kept⟩ | ⟨advanced, -⟩ | ⟨advanced, -⟩ := s.seqAdopt_cases
  · exact kept
  · exact absurd same advanced
  · exact absurd same advanced

/-- The reading that makes RC reach READINGS_MAX is the one that is measured (R101, R103). -/
theorem State.seqCount_of_rc_eq_one {s : State} (v : BitVec 12) (second : s.rc = 1) :
    s.seqCount v = { s with rc := 2 }.seqMeasure v := by
  obtain ⟨-, measured⟩ | ⟨notSecond, -⟩ := s.seqCount_cases v
  · exact measured
  · exact absurd second notSecond

/-- H_SAMPLE's pseudocode on the second flagged sample of the loaded sensor: no adoption, then the measurement of
SAMPLE_REG (R98, R101, R103). -/
theorem State.runSequencer_second {s : State} (flagged : s.adf = true) (same : s.nxt = s.cur) (second : s.rc = 1) :
    s.runSequencer = { s with adf := false, rc := 2 }.seqMeasure s.sampleReg := by
  obtain ⟨unflagged, -⟩ | ⟨-, processed⟩ := s.runSequencer_cases
  · rw [flagged] at unflagged
    cases unflagged
  · have kept : { s with adf := false }.seqAdopt = { s with adf := false } := State.seqAdopt_of_nxt_eq_cur same
    rw [processed, kept]
    exact State.seqCount_of_rc_eq_one (s := { s with adf := false }) s.sampleReg second

/-- SEQ_MEASURE writes bit LBIT of the loaded sensor in ACC and no other (R102, R103). -/
theorem State.seqMeasure_acc_getLsbD (s : State) (v : BitVec 12) (j : Nat) :
    (s.seqMeasure v).acc.getLsbD j = if j = (s.sensor s.cur).lbit.val then binarise v else s.acc.getLsbD j :=
  setBit_getLsbD s.acc _ j _ (s.sensor s.cur).lbit.isLt

/-- SEQ_MEASURE writes bit DBIT of the loaded sensor in DACC and no other (R102, R103). -/
theorem State.seqMeasure_dacc_getLsbD (s : State) (v : BitVec 12) (j : Nat) :
    (s.seqMeasure v).dacc.getLsbD j = if j = (s.sensor s.cur).dbit.val then binarise v else s.dacc.getLsbD j :=
  setBit_getLsbD s.dacc _ j _ (s.sensor s.cur).dbit.isLt

/-- Settles O36: it holds; the step adopts nothing and measures SAMPLE_REG (`State.runSequencer_second`), and the two
patterns are read off bit by bit from the one write of each. -/
theorem sampleMeasuresTheSecondReading : Obligations.SampleMeasuresTheSecondReading := by
  intro s enabled flagged same second
  have runs : exec .hSample s = .next ({ s with adf := false, rc := 2 }.seqMeasure s.sampleReg) :=
    (exec_hSample_enabled enabled).trans (congrArg _ (State.runSequencer_second flagged same second))
  exact ⟨_, runs, rfl, fun j _ => State.seqMeasure_acc_getLsbD _ _ j, fun j _ => State.seqMeasure_dacc_getLsbD _ _ j⟩

/-- Asleep, ADC is refused X5 (R96, R159). -/
theorem exec_adc_asleep {s : State} (v : BitVec 12) (asleep : s.sleeping = true) :
    exec (.adc v) s = .refused .clockHalted := by
  change execAdc v s = _
  rw [execAdc, clockedStep_asleep _ asleep]

/-- Awake, ADC stores the result and sets PEND[ADC] if a conversion is in flight, else it is refused X3 (R96). -/
theorem exec_adc_awake {s : State} (v : BitVec 12) (awake : s.sleeping = false) :
    exec (.adc v) s =
      if s.convBusy then .next ({ s with sampleReg := v, convBusy := false }.setPend .adc true)
      else .refused .noConversion := by
  change execAdc v s = _
  rw [execAdc, clockedStep_awake _ awake, endStep_awake _ awake]

/-- Settles O33: it holds; asleep the halted clock refuses the word, and awake CONV_BUSY decides. -/
theorem adcStoresTheResultOfAConversionInFlight : Obligations.AdcStoresTheResultOfAConversionInFlight := by
  refine ⟨encode_adc, fun v s => ⟨exec_adc_asleep v, fun awake idle => ?_,
    fun awake busy => ?_⟩⟩
  · rw [exec_adc_awake v awake, idle]
    rfl
  · rw [exec_adc_awake v awake, busy]
    rfl

/-- The selected SVC_ADC flags the sample and restarts the converter, its latch cleared by the dispatch (R97, R151). -/
theorem exec_svcAdc_selected {s : State} (selected : s.nextService = some .adc) :
    exec .svcAdc s = .next { s.setPend .adc false with adf := true }.startConversion := by
  change execSvcAdc s = _
  rw [execSvcAdc, dispatch_selected _ selected]

/-- Settles O34: it holds; a service has no word, and neither the dispatch nor the flag moves NXT, so the converter is
restarted on CH[NXT] of the state before (`exec_svcAdc_selected`). -/
theorem svcAdcFlagsAndRestarts : Obligations.SvcAdcFlagsAndRestarts :=
  ⟨rfl, fun _ selected => exec_svcAdc_selected selected⟩

end Sys2Proof.Machine
end

section
/-! EN[BTN] and the debouncer (R111 to R114). EN has one write, `State.writeEn`, and its rule below says what becomes of
PEND[BTN] at any write; SVC_BTN, SVC_DBT and H_SETEN are read off from it, and no other operation writes EN. -/
namespace Sys2Proof.Machine

/-- The write of EN: PEND[BTN] outlives it only where EN[BTN] keeps its value (R111, R140). -/
theorem State.writeEn_eq (s : State) (m : BitVec 7) :
    s.writeEn m = { s with
      en := m
      latch := { s.latch with btn := s.latch.btn && s.enabled .btn == m.getLsbD (sourceId .btn) } } := by
  unfold State.writeEn State.enabled
  split
  · next same => simp [same]
  · next changed => simp [changed, Latches.set]

/-- The write of EN[BTN] alone, by its new value (R111, R112, R114). -/
theorem State.writeEnBtn_eq (s : State) (b : Bool) :
    s.writeEnBtn b = { s with
      en := setBit s.en (sourceId .btn) b
      latch := { s.latch with btn := s.latch.btn && s.enabled .btn == b } } := by
  have written : (setBit s.en (sourceId .btn) b).getLsbD (sourceId .btn) = b := by
    rw [setBit_getLsbD s.en _ _ b (by decide), if_pos rfl]
  rw [State.writeEnBtn, State.writeEn_eq, written]

/-- R111 for the one write of EN: a change of EN[BTN] clears PEND[BTN]. -/
theorem State.writeEn_pend_btn_of_changed {s : State} {m : BitVec 7}
    (changed : (s.writeEn m).enabled .btn ≠ s.enabled .btn) : (s.writeEn m).pend .btn = false := by
  have differs : (s.enabled .btn == m.getLsbD (sourceId .btn)) = false := beq_false_of_ne changed.symm
  rw [State.writeEn_eq]
  simp [State.pend, differs]

/-! Who writes EN. -/

/-- The edge detector leaves EN (R109). -/
theorem State.buttonLevel_en (s : State) (l : Bool) : (s.buttonLevel l).en = s.en := by
  obtain ⟨-, -, -, latched⟩ | ⟨-, lineOnly⟩ := s.buttonLevel_cases l
  · rw [latched]
  · rw [lineOnly]

/-- Adoption leaves EN (R99). -/
theorem State.seqAdopt_en (s : State) : s.seqAdopt.en = s.en := by
  obtain ⟨-, kept⟩ | ⟨-, -, published⟩ | ⟨-, -, adopted⟩ := s.seqAdopt_cases
  · rw [kept]
  · rw [published]
  · rw [adopted]

/-- The reading count leaves EN (R101). -/
theorem State.seqCount_en (s : State) (v : BitVec 12) : (s.seqCount v).en = s.en := by
  obtain ⟨-, measured⟩ | ⟨-, counted⟩ := s.seqCount_cases v
  · rw [measured]
  · rw [counted]

/-- H_SAMPLE's pseudocode leaves EN (R98). -/
theorem State.runSequencer_en (s : State) : s.runSequencer.en = s.en := by
  obtain ⟨-, kept⟩ | ⟨-, processed⟩ := s.runSequencer_cases
  · rw [kept]
  · rw [processed, State.seqCount_en, State.seqAdopt_en]

/-- H_GOEDGE's pseudocode leaves EN (R115). -/
theorem State.goEdge_en (s : State) : s.goEdge.en = s.en := by
  obtain ⟨-, kept⟩ | ⟨-, -, started⟩ | ⟨-, -, paused⟩ := s.goEdge_cases
  · rw [kept]
  · rw [started]
  · rw [paused]

/-- A classified control period leaves EN (R123). -/
theorem State.applyStatus_en (s : State) (status : Status) : (s.applyStatus status).en = s.en := by
  cases status <;> rfl

/-- SVC_CTRL's pseudocode leaves EN (R123). -/
theorem State.controlPeriod_en (s : State) : s.controlPeriod.en = s.en := by
  obtain ⟨-, -, kept⟩ | ⟨-, classified⟩ := s.controlPeriod_cases
  · rw [kept]
  · rw [classified, State.applyStatus_en]

/-- EN is written by H_SETEN, SVC_BTN and SVC_DBT alone (R47, R111). -/
theorem exec_next_en {i : Instr} {s t : State} (h : exec i s = .next t) :
    t.en = s.en ∨ (∃ m, i = .hSeten m) ∨ i = .svcBtn ∨ i = .svcDbt := by
  cases i with
  | hSeten m => exact .inr (.inl ⟨m, rfl⟩)
  | svcBtn => exact .inr (.inr (.inl rfl))
  | svcDbt => exact .inr (.inr (.inr rfl))
  | enc e a b =>
    rw [execEnc_next h]
    split <;> simp
  | btn l =>
    rw [execBtn_next h]
    split <;> simp [State.buttonLevel_en]
  | adc v =>
    obtain ⟨-, -, rfl⟩ := execAdc_next h
    exact .inl rfl
  | tickObs =>
    obtain ⟨-, rfl⟩ := execTickObs_next h
    exact .inl rfl
  | tickCtrl =>
    obtain ⟨-, rfl⟩ := execTickCtrl_next h
    exact .inl rfl
  | tickDisp =>
    obtain ⟨-, rfl⟩ := execTickDisp_next h
    exact .inl rfl
  | dbtFire =>
    obtain ⟨-, -, rfl⟩ := execDbtFire_next h
    exact .inl rfl
  | sync =>
    obtain ⟨-, rfl⟩ := execSync_next h
    exact .inl rfl
  | hSample =>
    obtain ⟨-, -, rfl⟩ := execHSample_next h
    exact .inl s.runSequencer_en
  | hGoedge =>
    obtain ⟨-, -, rfl⟩ := execHGoedge_next h
    exact .inl s.goEdge_en
  | hRecover =>
    obtain ⟨-, -, rfl⟩ := execHRecover_next h
    exact .inl rfl
  | hSleep =>
    obtain ⟨-, -, rfl⟩ := execHSleep_next h
    exact .inl rfl
  | hRearm =>
    obtain ⟨-, -, rfl⟩ := execHRearm_next h
    exact .inl rfl
  | hRead a =>
    obtain ⟨-, -, d, -, rfl⟩ := execHRead_next h
    exact .inl rfl
  | svcDisp =>
    obtain ⟨-, -, rfl⟩ := execSvcDisp_next h
    exact .inl rfl
  | svcAdc =>
    obtain ⟨-, -, rfl⟩ := execSvcAdc_next h
    exact .inl rfl
  | svcQed =>
    obtain ⟨-, -, rfl⟩ := execSvcQed_next h
    exact .inl rfl
  | svcCtrl =>
    obtain ⟨-, -, rfl⟩ := execSvcCtrl_next h
    exact .inl (State.controlPeriod_en _)
  | svcObs =>
    obtain ⟨-, -, rfl⟩ := execSvcObs_next h
    exact .inl rfl

/-- Settles O28: it holds; only three operations write EN, each by `State.writeEn`, which clears PEND[BTN] when EN[BTN]
changes (`State.writeEn_pend_btn_of_changed`). The latch that SVC_BTN or SVC_DBT writes beside it is not set again. -/
theorem changingTheButtonEnableClearsItsPending : Obligations.ChangingTheButtonEnableClearsItsPending := by
  intro i s t h changed
  obtain same | ⟨m, rfl⟩ | rfl | rfl := exec_next_en h
  · exact absurd (congrArg (BitVec.getLsbD · (sourceId .btn)) same) changed
  · obtain ⟨-, -, rfl⟩ := execHSeten_next h
    exact State.writeEn_pend_btn_of_changed changed
  · obtain ⟨-, -, rfl⟩ := execSvcBtn_next h
    exact State.writeEn_pend_btn_of_changed changed
  · obtain ⟨-, -, rfl⟩ := execSvcDbt_next h
    obtain ⟨-, confirmed⟩ | ⟨-, kept⟩ := (s.setPend .dbt false).confirmDebounce_cases
    · rw [confirmed] at changed ⊢
      exact State.writeEn_pend_btn_of_changed changed
    · rw [kept] at changed
      exact absurd rfl changed

/-! SVC_BTN and SVC_DBT when selected. -/

/-- The selected SVC_BTN is its pseudocode with PEND[BTN] cleared by the dispatch (R112, R151). -/
theorem exec_svcBtn_selected {s : State} (selected : s.nextService = some .btn) :
    exec .svcBtn s = .next (s.setPend .btn false).armDebounce := dispatch_selected _ selected

/-- Settles O42: it holds; the dispatch has cleared PEND[BTN], so the write of EN[BTN] finds it clear. -/
theorem svcBtnArmsTheDebouncer : Obligations.SvcBtnArmsTheDebouncer := by
  refine ⟨rfl, fun s selected => ?_⟩
  rw [exec_svcBtn_selected selected, State.armDebounce, State.writeEnBtn_eq]
  rfl

/-- CONFIRM of a sample is the condition of R113. -/
theorem State.confirms_iff (s : State) (sample : Bool) :
    s.confirms sample = true ↔
      sample = s.dbDir ∧ (s.params.toggleOn = .both ∨ s.params.toggleOn = .pressOnly sample) := by
  unfold State.confirms
  cases s.params.toggleOn with
  | both => simp
  | pressOnly pressLevel => simpa using fun _ => eq_comm

/-- GO is inverted exactly on a confirmed sample (R114). -/
theorem State.go_xor_confirms (s : State) (sample : Bool) :
    (s.go ^^ s.confirms sample) =
      if sample = s.dbDir ∧ (s.params.toggleOn = .both ∨ s.params.toggleOn = .pressOnly sample)
        then !s.go else s.go := by
  simp only [← State.confirms_iff]
  cases s.confirms sample <;> simp

/-- The selected SVC_DBT is its pseudocode with PEND[DBT] cleared by the dispatch (R114, R151). -/
theorem exec_svcDbt_selected {s : State} (selected : s.nextService = some .dbt) :
    exec .svcDbt s = .next (s.setPend .dbt false).confirmDebounce := dispatch_selected _ selected

/-- Settles O43: it holds; DB_STATE decides, and while debouncing EN[BTN] is written 1, so PEND[BTN] survives exactly if
EN[BTN] was 1 already. -/
theorem svcDbtConfirmsOrDiscards : Obligations.SvcDbtConfirmsOrDiscards := by
  refine ⟨rfl, fun s selected => ?_⟩
  rw [exec_svcDbt_selected selected]
  obtain ⟨debouncing, confirmed⟩ | ⟨idle, kept⟩ := (s.setPend .dbt false).confirmDebounce_cases
  · refine ⟨fun _ => ?_, fun idle => absurd (debouncing.symm.trans idle) (by decide)⟩
    rw [confirmed, State.go_xor_confirms, State.writeEnBtn_eq, beq_true]
    rfl
  · refine ⟨fun debouncing => absurd (idle.symm.trans debouncing) (by decide), fun _ => ?_⟩
    rw [kept]
    rfl

end Sys2Proof.Machine
end

section
/-! SVC_CTRL (R122 to R125, R128): the classifier's rows, the saturating increment as a case of the counter, and what the
selected dispatch step makes of the state, by whether the control period is gated. -/
namespace Sys2Proof.Machine

open Sys2Proof.Config

/-- The NORMAL rows of the classifier's table (R122). -/
theorem classify_normal_row {p : Pattern} {r l : BitVec 8}
    (row : (p, r, l) ∈ [(0b001#3, 50#8, 0#8), (0b010#3, 25#8, 25#8), (0b011#3, 35#8, 15#8), (0b100#3, 0#8, 50#8),
      (0b110#3, 15#8, 35#8)]) :
    classify p = .normal r l := by
  simp only [List.mem_cons, Prod.mk.injEq, List.not_mem_nil, or_false] at row
  obtain ⟨rfl, rfl, rfl⟩ | ⟨rfl, rfl, rfl⟩ | ⟨rfl, rfl, rfl⟩ | ⟨rfl, rfl, rfl⟩ | ⟨rfl, rfl, rfl⟩ := row <;> rfl

/-- The LOST rows of the classifier's table (R122). -/
theorem classify_lost_row {p : Pattern} (row : p = 0b000 ∨ p = 0b101) : classify p = .lost := by
  obtain rfl | rfl := row <;> rfl

/-- `sat_8(x + 1)` on words (R124). -/
theorem satInc_eq (x : BitVec 8) : satInc x = if x = 255 then 255 else x + 1 := by
  apply BitVec.eq_of_toNat_eq
  rw [satInc_toNat]
  split
  · next full => simp [full]
  · next below => bv_omega

/-- Paused and gated, a control period has no effect (R128). -/
theorem State.controlPeriod_gated {s : State} (paused : s.go = false) (gated : s.params.ctrlGated = true) :
    s.controlPeriod = s := by
  obtain ⟨-, -, kept⟩ | ⟨runs, -⟩ := s.controlPeriod_cases
  · exact kept
  · simp [paused, gated] at runs

/-- Any other control period applies the status of the published pattern (R123). -/
theorem State.controlPeriod_running {s : State} (runs : s.go = true ∨ s.params.ctrlGated = false) :
    s.controlPeriod = s.applyStatus (classify s.lp) := by
  obtain ⟨paused, gated, -⟩ | ⟨-, classified⟩ := s.controlPeriod_cases
  · simp [paused, gated] at runs
  · exact classified

/-- The selected SVC_CTRL is its pseudocode with PEND[CTRL] cleared by the dispatch (R123, R151). -/
theorem exec_svcCtrl_selected {s : State} (selected : s.nextService = some .ctrl) :
    exec .svcCtrl s = .next (s.setPend .ctrl false).controlPeriod := dispatch_selected _ selected

/-- The selected SVC_CTRL, unless paused and gated, applies the status of LP (R123). -/
theorem exec_svcCtrl_running {s : State} {status : Status} (selected : s.nextService = some .ctrl)
    (runs : s.go = true ∨ s.params.ctrlGated = false) (classified : classify s.lp = status) :
    exec .svcCtrl s = .next ((s.setPend .ctrl false).applyStatus status) := by
  have period : (s.setPend .ctrl false).controlPeriod = (s.setPend .ctrl false).applyStatus (classify s.lp) :=
    State.controlPeriod_running runs
  rw [exec_svcCtrl_selected selected, period, classified]

/-- Settles O47: it holds; the dispatch clears PEND[CTRL] alone, so the gate and LP are those of the state before, and
each row of the classifier's table names the one update of `State.applyStatus` that follows. -/
theorem controlPeriodClassifiesAndCounts : Obligations.ControlPeriodClassifiesAndCounts := by
  refine ⟨rfl, fun s selected => ⟨fun paused gated => ?_, fun runs => ⟨fun p r l published row => ?_,
    fun row => ?_, fun row => ?_⟩⟩⟩
  · have kept : (s.setPend .ctrl false).controlPeriod = s.setPend .ctrl false := State.controlPeriod_gated paused gated
    rw [exec_svcCtrl_selected selected, kept]
    rfl
  · rw [exec_svcCtrl_running selected runs (published ▸ classify_normal_row row)]
    rfl
  · rw [exec_svcCtrl_running selected runs (classify_lost_row row), ← satInc_eq]
    rfl
  · have stopped : classify s.lp = .stop := by rw [row]; rfl
    rw [exec_svcCtrl_running selected runs stopped, ← satInc_eq]
    rfl

end Sys2Proof.Machine
end

section
/-! The dispatcher's own two services, SVC_OBS and SVC_DISP (R134, R135): what the selected dispatch step makes of the
state. -/
namespace Sys2Proof.Machine

/-- The selected SVC_OBS does nothing beyond the dispatch's clearing of PEND[OBS] (R134, R151). -/
theorem exec_svcObs_selected {s : State} (selected : s.nextService = some .obs) :
    exec .svcObs s = .next (s.setPend .obs false) := dispatch_selected (fun s => s) selected

/-- The selected SVC_DISP emits DACC, with PEND[DISP] cleared by the dispatch (R135, R151). -/
theorem exec_svcDisp_selected {s : State} (selected : s.nextService = some .disp) :
    exec .svcDisp s = .next ((s.setPend .disp false).emit (.disp s.dacc)) :=
  dispatch_selected (fun s => s.emit (.disp s.dacc)) selected

/-- Settles O50: it holds; neither service has a word, and the dispatch clears the one latch before the service runs,
so DACC and the log that SVC_DISP reads are those of the state before. -/
theorem displayAndObservationServices : Obligations.DisplayAndObservationServices :=
  ⟨⟨rfl, rfl⟩, fun _ => ⟨exec_svcObs_selected, exec_svcDisp_selected⟩⟩

end Sys2Proof.Machine
end

section
/-! Encoding and decoding are inverse (R71 to R84): a word is taken apart into the bits its row fixes and its operand,
so that a word which passes the check of a format is the word of the operation read from it, and the other way round. -/
namespace Sys2Proof

/-- A word whose bits above an operand of `n` bits are those of a row is the row with the operand in the low bits
(R82). -/
theorem eq_bits_or_operand {w mask bits : Word} (n : Nat) (hbits : w &&& mask = bits)
    (hmask : ∀ j < 16, mask.getLsbD j = decide (n ≤ j)) : w = bits ||| (w.extractLsb' 0 n).zeroExtend 16 := by
  refine BitVec.eq_of_getLsbD_eq fun j hj => ?_
  rw [← hbits, BitVec.getLsbD_or, BitVec.getLsbD_and, hmask j hj, BitVec.getLsbD_setWidth, BitVec.getLsbD_extractLsb']
  by_cases hn : n ≤ j
  · simp [hn]
  · simp [hn, hj, Nat.lt_of_not_le hn]

theorem encode_hRead (a : RegAddr) : encode (.hRead a) = some (0xD000#16 ||| a.zeroExtend 16) :=
  congrArg some (append_eq_or_zeroExtend (0b1101#4 ++ 0#7) a)

/-- The bits of ENC's operands in place (R73). -/
theorem and_encOperands (w : Word) :
    w &&& 0x0103 = 0#7 ++ bit (w.getLsbD 8) ++ 0#6 ++ bit (w.getLsbD 1) ++ bit (w.getLsbD 0) := by
  refine BitVec.eq_of_getLsbD_eq fun j hj => ?_
  simp only [BitVec.getLsbD_and, BitVec.getLsbD_append]
  interval_cases j <;> simp [bit]

/-- ENC's word is its row with the operands in bits 8, 1 and 0 (R73). -/
theorem encode_enc_of_bits {w : Word} (hbits : w &&& 0xFEFC = 0x1000) :
    encode (.enc (if w.getLsbD 8 then 1 else 0) (w.getLsbD 1) (w.getLsbD 0)) = some w := by
  have parts : w = 0x1000 ||| (w &&& 0x0103) := by
    rw [← hbits, ← BitVec.and_or_distrib_left]
    exact BitVec.and_allOnes.symm
  rw [and_encOperands] at parts
  conv_rhs => rw [parts]
  generalize w.getLsbD 8 = e
  generalize w.getLsbD 1 = a
  generalize w.getLsbD 0 = b
  revert e a b
  decide

/-- BTN's word is its row with the level in bit 0 (R74). -/
theorem encode_btn_of_bits {w : Word} (hbits : w &&& 0xFFFE = 0x2000) : encode (.btn (w.getLsbD 0)) = some w := by
  have parts := eq_bits_or_operand 1 hbits (by decide)
  have level : w.extractLsb' 0 1 = bit (w.getLsbD 0) := by
    refine BitVec.eq_of_getLsbD_eq fun j hj => ?_
    simp [bit, Nat.lt_one_iff.mp hj]
  rw [level] at parts
  conv_rhs => rw [parts]
  exact congrArg some (append_eq_or_zeroExtend (0b0010#4 ++ 0#11) (bit (w.getLsbD 0)))

/-- One format: where the words that pass its check are the words of its operation, so is a word that decodes to it
(R84). -/
theorem encode_of_checkZeros {w zeros : Word} {i j : Instr} (hd : checkZeros w zeros i = .ok j) (hi : i.WellFormed)
    (hencode : w &&& zeros = 0 → encode i = some w) : j.WellFormed ∧ encode j = some w := by
  obtain ⟨hzeros, rfl⟩ := checkZeros_eq_ok_iff.mp hd
  exact ⟨hi, hencode hzeros⟩

/-- A format without an operand: the reserved bits fill the word below OP (R77, R78). -/
theorem encode_of_checkZeros_fixed {w : Word} {i j : Instr} (op : BitVec 4) (hop : (w.extractLsb' 12 4).toNat = op.toNat)
    (hd : checkZeros w 0x0FFF i = .ok j) (hi : i.WellFormed) (hfixed : encode i = some (op ++ 0#12)) :
    j.WellFormed ∧ encode j = some w := by
  refine encode_of_checkZeros hd hi fun hzeros => ?_
  rw [hfixed, ← and_mask_of_op op hop hzeros]
  exact congrArg some BitVec.and_allOnes

/-- E-TICK's words are those of the four timers (R76). -/
theorem encode_of_decodeTick {w : Word} {i : Instr} (hop : (w.extractLsb' 12 4).toNat = 0x4)
    (hd : decodeTick w = .ok i) : i.WellFormed ∧ encode i = some w := by
  have timer (t : BitVec 3) (ht : (w.extractLsb' 0 3).toNat = t.toNat) (hzeros : w &&& 0x0FF8 = 0) :
      some ((0x4#4 ++ 0#12) ||| (0#13 ++ t)) = some w := by
    have fixed := and_mask_of_timer 0x4 t hop ht hzeros
    exact congrArg some (fixed.symm.trans BitVec.and_allOnes)
  unfold decodeTick at hd
  split at hd
  case h_1 ht => exact encode_of_checkZeros hd rfl (timer 0 ht)
  case h_2 ht => exact encode_of_checkZeros hd rfl (timer 1 ht)
  case h_3 ht => exact encode_of_checkZeros hd rfl (timer 2 ht)
  case h_4 ht => exact encode_of_checkZeros hd rfl (timer 3 ht)
  case h_5 => cases hd

/-- Settles O2: it holds, format by format: OP, the reserved zeros and the operand read make up the whole word. -/
theorem encodeOfDecodeIsTheWord : Obligations.EncodeOfDecodeIsTheWord := by
  intro w i hd
  unfold decode at hd
  split at hd
  case h_1 hop => exact encode_of_checkZeros hd rfl fun hzeros => encode_enc_of_bits (and_mask_of_op 0x1 hop hzeros)
  case h_2 hop => exact encode_of_checkZeros hd rfl fun hzeros => encode_btn_of_bits (and_mask_of_op 0x2 hop hzeros)
  case h_3 hop =>
    cases hd
    have parts := eq_bits_or_operand 12 (and_mask_of_op 0x3 hop (zeros := 0) BitVec.and_zero) (by decide)
    exact ⟨rfl, (encode_adc _).trans (congrArg some parts.symm)⟩
  case h_4 hop => exact encode_of_decodeTick hop hd
  case h_5 hop => exact encode_of_checkZeros_fixed 0x7 hop hd rfl rfl
  case h_6 hop => exact encode_of_checkZeros_fixed 0x8 hop hd rfl rfl
  case h_7 hop => exact encode_of_checkZeros_fixed 0x9 hop hd rfl rfl
  case h_8 hop => exact encode_of_checkZeros_fixed 0xA hop hd rfl rfl
  case h_9 hop => exact encode_of_checkZeros_fixed 0xB hop hd rfl rfl
  case h_10 hop => exact encode_of_checkZeros_fixed 0xC hop hd rfl rfl
  case h_11 hop =>
    refine encode_of_checkZeros hd rfl fun hzeros => (encode_hRead _).trans (congrArg some ?_)
    exact (eq_bits_or_operand 5 (and_mask_of_op 0xD hop hzeros) (by decide)).symm
  case h_12 hop =>
    refine encode_of_checkZeros hd rfl fun hzeros => (encode_hSeten _).trans (congrArg some ?_)
    exact (eq_bits_or_operand 7 (and_mask_of_op 0xE hop hzeros) (by decide)).symm
  case h_13 => cases hd

/-- Fixed bits with an operand below them meet the row of the fixed bits (R82). -/
theorem append_and_mask {n m : Nat} (fixed : BitVec n) (operand : BitVec m) :
    (fixed ++ operand) &&& (BitVec.allOnes n ++ 0#m) = fixed ++ 0#m := by
  rw [BitVec.and_append, BitVec.and_allOnes, BitVec.and_zero]

theorem decode_adc (v : BitVec 12) : decode (0b0011#4 ++ v) = .ok (.adc v) := by
  have met : OpcodeRow.meets ⟨"ADC", 0x3000, 0xF000⟩ (0b0011#4 ++ v) = true :=
    beq_iff_eq.mpr (append_and_mask 0b0011#4 v)
  have hop := OpcodeRow.field_of_meets 12 4 met rfl
  rw [decode, hop, BitVec.extractLsb'_append_eq_right]
  rfl

theorem decode_hRead (a : RegAddr) : decode (0b1101#4 ++ 0#7 ++ a) = .ok (.hRead a) := by
  have met : OpcodeRow.meets ⟨"H_READ", 0xD000, 0xFFE0⟩ (0b1101#4 ++ 0#7 ++ a) = true :=
    beq_iff_eq.mpr (append_and_mask (0b1101#4 ++ 0#7) a)
  have hop := OpcodeRow.field_of_meets 12 4 met rfl
  rw [decode, hop, BitVec.extractLsb'_append_eq_right]
  exact checkZeros_of_meets _ met rfl rfl

theorem decode_hSeten (m : BitVec 7) : decode (0b1110#4 ++ 0#5 ++ m) = .ok (.hSeten m) := by
  have met : OpcodeRow.meets ⟨"H_SETEN", 0xE000, 0xFF80⟩ (0b1110#4 ++ 0#5 ++ m) = true :=
    beq_iff_eq.mpr (append_and_mask (0b1110#4 ++ 0#5) m)
  have hop := OpcodeRow.field_of_meets 12 4 met rfl
  rw [decode, hop, BitVec.extractLsb'_append_eq_right]
  exact checkZeros_of_meets _ met rfl rfl

/-- Settles O1: it holds. An operation without an operand has one word, ENC and BTN have eight and two; the operands of
ADC, H_READ and H_SETEN are read back for every value, since their words meet the rows of those operations. -/
theorem decodeOfEncodeIsTheOperation : Obligations.DecodeOfEncodeIsTheOperation := by
  intro i wellFormed
  cases i with
  | enc e a b =>
    refine ⟨_, rfl, ?_⟩
    revert e a b
    decide
  | btn l =>
    refine ⟨_, rfl, ?_⟩
    revert l
    decide
  | adc v => exact ⟨_, rfl, decode_adc v⟩
  | hRead a => exact ⟨_, rfl, decode_hRead a⟩
  | hSeten m => exact ⟨_, rfl, decode_hSeten m⟩
  | tickObs | tickCtrl | tickDisp | dbtFire | sync | hSample | hGoedge | hRecover | hSleep | hRearm =>
    exact ⟨_, rfl, by decide⟩
  | svcDisp | svcBtn | svcAdc | svcQed | svcDbt | svcCtrl | svcObs => cases wellFormed

/-- Settles O5: it holds, by decoding the nine words. -/
theorem specWordsDecodeAsListed : Obligations.SpecWordsDecodeAsListed := by
  unfold Obligations.SpecWordsDecodeAsListed
  decide

end Sys2Proof
end

section
/-! Who writes what (R47): the elements of the block's state and, for each, the operations that may change it. Every
statement about writers is a row of this table, read through `exec_next_same`. -/
namespace Sys2Proof.Machine

open Sys2Proof.Config

/-- The elements of 10_state.md, those with the same writers together. -/
inductive Element where
  /-- LINES of one encoder. -/
  | lines (e : Fin 2)
  /-- HIST and COUNT of both encoders. -/
  | history
  /-- CUR, NXT, RC, ACC, LP and DACC. -/
  | sequencer
  | sampleReg
  | adf
  | convBusy
  | convCh
  /-- LOST and STOP. -/
  | counters
  /-- DUTY_R and DUTY_L. -/
  | duty
  /-- BTN_LINE and DB_DIR. -/
  | button
  | dbState
  | dbtArmed
  | go
  | goPrev
  | pendDisp
  | pendBtn
  | pendAdc
  | pendDbt
  | pendCtrl
  | pendObs
  /-- EN[BTN]. -/
  | enableBtn
  /-- The other bits of EN. -/
  | enables
  | sleeping
  | log
  /-- The model's own fields, the parameters and the schedule. -/
  | own

/-- The element has the same value in both states. -/
def Element.Same (s t : State) : Element → Prop
  | .lines e => (t.encoder e).lines = (s.encoder e).lines
  | .history => (t.enc0.hist, t.enc0.count, t.enc1.hist, t.enc1.count) =
      (s.enc0.hist, s.enc0.count, s.enc1.hist, s.enc1.count)
  | .sequencer => (t.cur, t.nxt, t.rc, t.acc, t.lp, t.dacc) = (s.cur, s.nxt, s.rc, s.acc, s.lp, s.dacc)
  | .sampleReg => t.sampleReg = s.sampleReg
  | .adf => t.adf = s.adf
  | .convBusy => t.convBusy = s.convBusy
  | .convCh => t.convCh = s.convCh
  | .counters => (t.lost, t.stop) = (s.lost, s.stop)
  | .duty => (t.dutyR, t.dutyL) = (s.dutyR, s.dutyL)
  | .button => (t.btnLine, t.dbDir) = (s.btnLine, s.dbDir)
  | .dbState => t.dbState = s.dbState
  | .dbtArmed => t.dbtArmed = s.dbtArmed
  | .go => t.go = s.go
  | .goPrev => t.goPrev = s.goPrev
  | .pendDisp => t.latch.disp = s.latch.disp
  | .pendBtn => t.latch.btn = s.latch.btn
  | .pendAdc => t.latch.adc = s.latch.adc
  | .pendDbt => t.latch.dbt = s.latch.dbt
  | .pendCtrl => t.latch.ctrl = s.latch.ctrl
  | .pendObs => t.latch.obs = s.latch.obs
  | .enableBtn => t.enabled .btn = s.enabled .btn
  | .enables => (fun src : { src // src ≠ Source.btn } => t.enabled src.1) = fun src => s.enabled src.1
  | .sleeping => t.sleeping = s.sleeping
  | .log => t.log = s.log
  | .own => (t.params, t.stream, t.sched, t.turns) = (s.params, s.stream, s.sched, s.turns)

/-- The writers of each element (R47, R111, R165). -/
def Element.WrittenBy (i : Instr) : Element → Prop
  | .lines e => ∃ a b, i = .enc e a b
  | .history => i = .svcQed
  | .sequencer => i = .hSample
  | .sampleReg => ∃ v, i = .adc v
  | .adf => i = .svcAdc ∨ i = .hSample ∨ i = .hRearm
  | .convBusy => (∃ v, i = .adc v) ∨ i = .svcAdc ∨ i = .hRearm
  | .convCh => i = .svcAdc ∨ i = .hRearm
  | .counters => i = .svcCtrl ∨ i = .hRecover
  | .duty => i = .svcCtrl
  | .button => ∃ l, i = .btn l
  | .dbState => i = .svcBtn ∨ i = .svcDbt
  | .dbtArmed => i = .dbtFire ∨ i = .svcBtn
  | .go => i = .svcDbt ∨ i = .hRecover
  | .goPrev => i = .hGoedge ∨ i = .hRecover
  | .pendDisp => i = .tickDisp ∨ i = .svcDisp
  | .pendBtn => (∃ l, i = .btn l) ∨ (∃ m, i = .hSeten m) ∨ i = .svcBtn ∨ i = .svcDbt
  | .pendAdc => (∃ v, i = .adc v) ∨ i = .svcAdc ∨ i = .hRearm
  | .pendDbt => i = .dbtFire ∨ i = .svcBtn ∨ i = .svcDbt
  | .pendCtrl => i = .tickCtrl ∨ i = .svcCtrl
  | .pendObs => i = .tickObs ∨ i = .svcObs
  | .enableBtn => (∃ m, i = .hSeten m) ∨ i = .svcBtn ∨ i = .svcDbt
  | .enables => ∃ m, i = .hSeten m
  | .sleeping => i = .hSleep ∨ (∃ e a b, i = .enc e a b) ∨ ∃ l, i = .btn l
  | .log => i = .svcDisp ∨ i = .svcAdc ∨ i = .svcCtrl ∨ i = .hGoedge ∨ i = .hSleep ∨ i = .hRearm ∨ ∃ a, i = .hRead a
  | .own => False

/-- The wake writes SLEEPING alone (R165). -/
theorem State.wake_eq (s : State) : s.wake = { s with sleeping := s.sleeping && s.quiescent } := by
  unfold State.wake
  cases quiet : s.quiescent <;> simp

/-- ENC and BTN write what their effect writes, and SLEEPING by the wake (R87, R109, R165). -/
theorem asyncStep_next {s t : State} {effect : State → State} (h : asyncStep s effect = .next t) :
    ∃ asleep, t = { effect s with sleeping := asleep } := by
  rw [endStep_next h]
  split
  · exact ⟨_, State.wake_eq _⟩
  · exact ⟨_, rfl⟩

/-- ENC's write of the lines, read at the encoder it names (R87). -/
theorem State.setLines_encoder_same (s : State) (e : Fin 2) (l : BitVec 2) :
    (s.setLines e l).encoder e = { s.encoder e with lines := l } := by
  fin_cases e <;> rfl

/-- ENC's write of the lines, read at the other encoder (R87). -/
theorem State.setLines_encoder_of_ne (s : State) {e e' : Fin 2} (l : BitVec 2) (other : e' ≠ e) :
    (s.setLines e l).encoder e' = s.encoder e' := by
  fin_cases e <;> fin_cases e' <;> simp_all [State.encoder]

theorem exec_enc_next {e : Fin 2} {a b : Bool} {s t : State} (h : exec (.enc e a b) s = .next t) :
    ∃ asleep, t = { s.setLines e (lineState a b) with sleeping := asleep } := asyncStep_next h

theorem exec_btn_next {l : Bool} {s t : State} (h : exec (.btn l) s = .next t) :
    ∃ asleep, t = { s.buttonLevel l with sleeping := asleep } := asyncStep_next h

/-- Adoption writes CUR, RC, LP and ACC only (R99, R100). -/
theorem State.seqAdopt_frame (s : State) :
    s.seqAdopt = { s with
      cur := s.seqAdopt.cur, rc := s.seqAdopt.rc, lp := s.seqAdopt.lp, acc := s.seqAdopt.acc } := by
  obtain ⟨-, kept⟩ | ⟨-, -, published⟩ | ⟨-, -, adopted⟩ := s.seqAdopt_cases
  · rw [kept]
  · rw [published]
  · rw [adopted]

/-- The reading count writes RC, ACC, DACC and NXT only (R101, R103). -/
theorem State.seqCount_frame (s : State) (v : BitVec 12) :
    s.seqCount v = { s with
      rc := (s.seqCount v).rc, acc := (s.seqCount v).acc, dacc := (s.seqCount v).dacc, nxt := (s.seqCount v).nxt } := by
  obtain ⟨-, measured⟩ | ⟨-, counted⟩ := s.seqCount_cases v
  · rw [measured]
  · rw [counted]

/-- H_SAMPLE writes the sequencer and ADF only (R98). -/
theorem State.runSequencer_frame (s : State) :
    s.runSequencer = { s with
      adf := s.runSequencer.adf, cur := s.runSequencer.cur, nxt := s.runSequencer.nxt, rc := s.runSequencer.rc
      acc := s.runSequencer.acc, lp := s.runSequencer.lp, dacc := s.runSequencer.dacc } := by
  obtain ⟨-, kept⟩ | ⟨-, processed⟩ := s.runSequencer_cases
  · rw [kept]
  · rw [processed, State.seqCount_frame, State.seqAdopt_frame]

/-- H_GOEDGE writes GO_PREV and the log only (R115). -/
theorem State.goEdge_frame (s : State) : s.goEdge = { s with goPrev := s.goEdge.goPrev, log := s.goEdge.log } := by
  obtain ⟨-, kept⟩ | ⟨-, -, started⟩ | ⟨-, -, paused⟩ := s.goEdge_cases
  · rw [kept]
  · rw [started]
  · rw [paused]

/-- A control period writes the duty pair, the counters and the log only (R123). -/
theorem State.controlPeriod_frame (s : State) :
    s.controlPeriod = { s with
      dutyR := s.controlPeriod.dutyR, dutyL := s.controlPeriod.dutyL, lost := s.controlPeriod.lost
      stop := s.controlPeriod.stop, log := s.controlPeriod.log } := by
  obtain ⟨-, -, kept⟩ | ⟨-, classified⟩ := s.controlPeriod_cases
  · rw [kept]
  · rw [classified]
    cases classify s.lp <;> rfl

/-- SVC_QED leaves the lines (R89, R95). -/
theorem Encoder.decodeEdge_lines (p : Params) (c : Encoder) : (c.decodeEdge p).lines = c.lines := by
  obtain ⟨-, updated⟩ | ⟨-, untouched⟩ := c.decodeEdge_cases p
  · rw [updated]
  · rw [untouched]

/-- No two sources share an id (R44). -/
theorem sourceId_injective : Function.Injective sourceId := by
  intro src src' same
  cases src <;> cases src' <;> simp_all [sourceId]

/-- Writing EN[BTN] leaves every other enable bit (R112, R114). -/
theorem setBit_btn_getLsbD_of_ne (m : BitVec 7) (b : Bool) {src : Source} (other : src ≠ .btn) :
    (setBit m (sourceId .btn) b).getLsbD (sourceId src) = m.getLsbD (sourceId src) := by
  have ids : sourceId src ≠ sourceId .btn := fun same => other (sourceId_injective same)
  exact (setBit_getLsbD m _ _ b (by decide)).trans (if_neg ids)

/-- An operation leaves every element it does not write. -/
theorem exec_next_same {i : Instr} {s t : State} {x : Element} (h : exec i s = .next t) (hx : ¬ x.WrittenBy i) :
    x.Same s t := by
  cases i with
  | enc e a b =>
    obtain ⟨asleep, rfl⟩ := exec_enc_next h
    cases x
    case sleeping => simp [Element.WrittenBy] at hx
    case lines e' =>
      have other : e' ≠ e := fun same => hx ⟨a, b, same ▸ rfl⟩
      exact congrArg Encoder.lines (State.setLines_encoder_of_ne s _ other)
    all_goals fin_cases e <;> rfl
  | btn l =>
    obtain ⟨asleep, rfl⟩ := exec_btn_next h
    obtain ⟨-, -, -, latched⟩ | ⟨-, lineOnly⟩ := s.buttonLevel_cases l
    · rw [latched]
      cases x
      case button | pendBtn | sleeping => simp [Element.WrittenBy] at hx
      all_goals rfl
    · rw [lineOnly]
      cases x
      case button | sleeping => simp [Element.WrittenBy] at hx
      all_goals rfl
  | adc v =>
    obtain ⟨-, -, rfl⟩ := execAdc_next h
    cases x
    case sampleReg | convBusy | pendAdc => simp [Element.WrittenBy] at hx
    all_goals rfl
  | tickObs =>
    obtain ⟨-, rfl⟩ := execTickObs_next h
    cases x
    case pendObs => simp [Element.WrittenBy] at hx
    all_goals rfl
  | tickCtrl =>
    obtain ⟨-, rfl⟩ := execTickCtrl_next h
    cases x
    case pendCtrl => simp [Element.WrittenBy] at hx
    all_goals rfl
  | tickDisp =>
    obtain ⟨-, rfl⟩ := execTickDisp_next h
    cases x
    case pendDisp => simp [Element.WrittenBy] at hx
    all_goals rfl
  | dbtFire =>
    obtain ⟨-, -, rfl⟩ := execDbtFire_next h
    cases x
    case dbtArmed | pendDbt => simp [Element.WrittenBy] at hx
    all_goals rfl
  | sync =>
    obtain ⟨-, rfl⟩ := execSync_next h
    cases x <;> rfl
  | hSample =>
    obtain ⟨-, -, rfl⟩ := execHSample_next h
    rw [State.runSequencer_frame]
    cases x
    case adf | sequencer => simp [Element.WrittenBy] at hx
    all_goals rfl
  | hGoedge =>
    obtain ⟨-, -, rfl⟩ := execHGoedge_next h
    rw [State.goEdge_frame]
    cases x
    case goPrev | log => simp [Element.WrittenBy] at hx
    all_goals rfl
  | hRecover =>
    obtain ⟨-, -, rfl⟩ := execHRecover_next h
    cases x
    case counters | go | goPrev => simp [Element.WrittenBy] at hx
    all_goals rfl
  | hSleep =>
    obtain ⟨-, -, rfl⟩ := execHSleep_next h
    cases x
    case sleeping | log => simp [Element.WrittenBy] at hx
    all_goals rfl
  | hRearm =>
    obtain ⟨-, -, rfl⟩ := execHRearm_next h
    cases x
    case adf | convBusy | convCh | pendAdc | log => simp [Element.WrittenBy] at hx
    all_goals rfl
  | hRead a =>
    obtain ⟨-, -, d, -, rfl⟩ := execHRead_next h
    cases x
    case log => simp [Element.WrittenBy] at hx
    all_goals rfl
  | hSeten m =>
    obtain ⟨-, -, rfl⟩ := execHSeten_next h
    rw [State.writeEn_eq]
    cases x
    case pendBtn | enableBtn | enables => simp [Element.WrittenBy] at hx
    all_goals rfl
  | svcDisp =>
    obtain ⟨-, -, rfl⟩ := execSvcDisp_next h
    cases x
    case pendDisp | log => simp [Element.WrittenBy] at hx
    all_goals rfl
  | svcBtn =>
    obtain ⟨-, -, rfl⟩ := execSvcBtn_next h
    rw [State.armDebounce, State.writeEnBtn_eq]
    cases x
    case dbState | dbtArmed | pendBtn | pendDbt | enableBtn => simp [Element.WrittenBy] at hx
    case enables => exact funext fun src => setBit_btn_getLsbD_of_ne s.en false src.2
    all_goals rfl
  | svcAdc =>
    obtain ⟨-, -, rfl⟩ := execSvcAdc_next h
    cases x
    case adf | convBusy | convCh | pendAdc | log => simp [Element.WrittenBy] at hx
    all_goals rfl
  | svcQed =>
    obtain ⟨-, -, rfl⟩ := execSvcQed_next h
    cases x
    case history => simp [Element.WrittenBy] at hx
    case lines e =>
      rw [Element.Same, State.decodeEdges_encoder]
      exact Encoder.decodeEdge_lines _ _
    all_goals rfl
  | svcDbt =>
    obtain ⟨-, -, rfl⟩ := execSvcDbt_next h
    obtain ⟨-, confirmed⟩ | ⟨-, kept⟩ := (s.setPend .dbt false).confirmDebounce_cases
    · rw [confirmed, State.writeEnBtn_eq]
      cases x
      case dbState | go | pendBtn | pendDbt | enableBtn => simp [Element.WrittenBy] at hx
      case enables => exact funext fun src => setBit_btn_getLsbD_of_ne s.en true src.2
      all_goals rfl
    · rw [kept]
      cases x
      case pendDbt => simp [Element.WrittenBy] at hx
      all_goals rfl
  | svcCtrl =>
    obtain ⟨-, -, rfl⟩ := execSvcCtrl_next h
    rw [State.controlPeriod_frame]
    cases x
    case counters | duty | pendCtrl | log => simp [Element.WrittenBy] at hx
    all_goals rfl
  | svcObs =>
    obtain ⟨-, -, rfl⟩ := execSvcObs_next h
    cases x
    case pendObs => simp [Element.WrittenBy] at hx
    all_goals rfl

/-- Settles O23: it holds, the row of the sequencer. -/
theorem onlySampleWritesTheSequencer : Obligations.OnlySampleWritesTheSequencer := by
  intro i s t h notSample
  simpa [Element.Same] using exec_next_same (x := .sequencer) h notSample

/-- Settles O24: it holds, the rows of LINES of each encoder and of HIST and COUNT. -/
theorem onlyEncAndSvcQedWriteTheEncoders : Obligations.OnlyEncAndSvcQedWriteTheEncoders := by
  intro i s t h
  refine ⟨fun e notEnc => exec_next_same (x := .lines e) h (by simpa [Element.WrittenBy] using notEnc), fun notQed e => ?_⟩
  have kept := exec_next_same (x := .history) h notQed
  simp only [Element.Same, Prod.mk.injEq] at kept
  obtain ⟨hist0, count0, hist1, count1⟩ := kept
  fin_cases e
  · exact ⟨hist0, count0⟩
  · exact ⟨hist1, count1⟩

/-- Settles O25: it holds, the rows of the counters, the duty pair, GO and GO_PREV. -/
theorem writersOfFaultCountersDutyAndGoLatch : Obligations.WritersOfFaultCountersDutyAndGoLatch := by
  intro i s t h
  refine ⟨fun notCtrl notRecover => ?_, fun notCtrl => ?_, fun notDbt notRecover => ?_, fun notEdge notRecover => ?_⟩
  · exact Prod.mk.inj (exec_next_same (x := .counters) h (not_or.mpr ⟨notCtrl, notRecover⟩))
  · exact Prod.mk.inj (exec_next_same (x := .duty) h notCtrl)
  · exact exec_next_same (x := .go) h (not_or.mpr ⟨notDbt, notRecover⟩)
  · exact exec_next_same (x := .goPrev) h (not_or.mpr ⟨notEdge, notRecover⟩)

/-- Settles O26: it holds, the rows of the conversion state. -/
theorem writersOfConversionState : Obligations.WritersOfConversionState := by
  intro i s t h
  refine ⟨fun notAdc => ?_, fun notSvc notSample notRearm => ?_, fun notAdc notSvc notRearm => ?_,
    fun notSvc notRearm => ?_, fun notAdc notSvc notRearm => ?_⟩
  · exact exec_next_same (x := .sampleReg) h (not_exists.mpr notAdc)
  · exact exec_next_same (x := .adf) h (not_or.mpr ⟨notSvc, not_or.mpr ⟨notSample, notRearm⟩⟩)
  · exact exec_next_same (x := .convBusy) h (not_or.mpr ⟨not_exists.mpr notAdc, not_or.mpr ⟨notSvc, notRearm⟩⟩)
  · exact exec_next_same (x := .convCh) h (not_or.mpr ⟨notSvc, notRearm⟩)
  · exact exec_next_same (x := .pendAdc) h (not_or.mpr ⟨not_exists.mpr notAdc, not_or.mpr ⟨notSvc, notRearm⟩⟩)

/-- Settles O27: it holds, the rows of DEB, of the latches, of EN and of SLEEPING. -/
theorem writersOfDebounceEnablesAndSleep : Obligations.WritersOfDebounceEnablesAndSleep := by
  intro i s t h
  refine ⟨fun notBtn => ?button, fun notSvcBtn notSvcDbt => ?dbState, fun notFire notSvcBtn => ?dbtArmed,
    fun notFire notSvcBtn notSvcDbt => ?pendDbt, fun notSeten src other => ?enables,
    fun notSeten notSvcBtn notSvcDbt => ?en, fun notBtn notSeten notSvcBtn notSvcDbt => ?pendBtn,
    fun notTick notSvc => ?pendDisp, fun notTick notSvc => ?pendCtrl, fun notTick notSvc => ?pendObs,
    fun notSleep notEnc notBtn => ?sleeping⟩
  case button => exact Prod.mk.inj (exec_next_same (x := .button) h (not_exists.mpr notBtn))
  case dbState => exact exec_next_same (x := .dbState) h (not_or.mpr ⟨notSvcBtn, notSvcDbt⟩)
  case dbtArmed => exact exec_next_same (x := .dbtArmed) h (not_or.mpr ⟨notFire, notSvcBtn⟩)
  case pendDbt => exact exec_next_same (x := .pendDbt) h (by simp [Element.WrittenBy, notFire, notSvcBtn, notSvcDbt])
  case enables => exact congrFun (exec_next_same (x := .enables) h (not_exists.mpr notSeten)) ⟨src, other⟩
  case en =>
    obtain kept | ⟨m, seten⟩ | svcBtn | svcDbt := exec_next_en h
    · exact kept
    · exact absurd seten (notSeten m)
    · exact absurd svcBtn notSvcBtn
    · exact absurd svcDbt notSvcDbt
  case pendBtn =>
    exact exec_next_same (x := .pendBtn) h (by simp [Element.WrittenBy, notBtn, notSeten, notSvcBtn, notSvcDbt])
  case pendDisp => exact exec_next_same (x := .pendDisp) h (not_or.mpr ⟨notTick, notSvc⟩)
  case pendCtrl => exact exec_next_same (x := .pendCtrl) h (not_or.mpr ⟨notTick, notSvc⟩)
  case pendObs => exact exec_next_same (x := .pendObs) h (not_or.mpr ⟨notTick, notSvc⟩)
  case sleeping => exact exec_next_same (x := .sleeping) h (by simp [Element.WrittenBy, notSleep, notEnc, notBtn])

/-- What the writers of the log append: one event each, or none (R49). -/
theorem exec_next_log {i : Instr} {s t : State} (h : exec i s = .next t) :
    t.log = s.log ∨ ∃ ev, t.log = s.log ++ [ev] := by
  by_cases written : Element.log.WrittenBy i
  case neg => exact .inl (exec_next_same (x := .log) h written)
  obtain rfl | rfl | rfl | rfl | rfl | rfl | ⟨a, rfl⟩ := written
  · obtain ⟨-, -, rfl⟩ := execSvcDisp_next h
    exact .inr ⟨_, rfl⟩
  · obtain ⟨-, -, rfl⟩ := execSvcAdc_next h
    exact .inr ⟨_, rfl⟩
  · obtain ⟨-, -, rfl⟩ := execSvcCtrl_next h
    obtain ⟨-, -, kept⟩ | ⟨-, classified⟩ := (s.setPend .ctrl false).controlPeriod_cases
    · exact .inl ((congrArg State.log kept).trans rfl)
    · rw [classified]
      cases classify (s.setPend .ctrl false).lp with
      | normal r l => exact .inr ⟨_, rfl⟩
      | lost | stop => exact .inl rfl
  · obtain ⟨-, -, rfl⟩ := execHGoedge_next h
    obtain ⟨-, kept⟩ | ⟨-, -, started⟩ | ⟨-, -, paused⟩ := s.goEdge_cases
    · exact .inl (congrArg State.log kept)
    · exact .inr ⟨_, congrArg State.log started⟩
    · exact .inr ⟨_, congrArg State.log paused⟩
  · obtain ⟨-, -, rfl⟩ := execHSleep_next h
    exact .inr ⟨_, rfl⟩
  · obtain ⟨-, -, rfl⟩ := execHRearm_next h
    exact .inr ⟨_, rfl⟩
  · obtain ⟨-, -, d, -, rfl⟩ := execHRead_next h
    exact .inr ⟨_, rfl⟩

/-- Settles O22: it holds; nothing writes the model's own fields, and the log grows by at most one event. -/
theorem logOnlyGrowsAndParametersStay : Obligations.LogOnlyGrowsAndParametersStay := by
  intro i s t h
  have own := exec_next_same (x := .own) h id
  simp only [Element.Same, Prod.mk.injEq] at own
  refine ⟨?_, own⟩
  obtain kept | ⟨ev, appended⟩ := exec_next_log h
  · exact ⟨[], by simpa using kept, by simp⟩
  · exact ⟨[ev], appended, by simp⟩

end Sys2Proof.Machine
end

section
/-! What exec answers (R159 to R161): a fault exactly where the step is not enabled, and a refusal exactly in the
conditions X3 to X6. The lemmas go by the shape of the meanings: the end of a step, a clocked word, a host word, a
dispatch. -/
namespace Sys2Proof.Machine

open Sys2Proof.Config

@[simp] theorem endStep_ne_fault (s u : State) (f : Fault) : endStep s u ≠ .fault f := nofun

@[simp] theorem endStep_ne_refused (s u : State) (r : Refusal) : endStep s u ≠ .refused r := nofun

@[simp] theorem clockedStep_eq_fault_iff {s : State} {body : State → Result} {f : Fault} :
    clockedStep s body = .fault f ↔ s.sleeping = false ∧ body s = .fault f := by
  unfold clockedStep
  cases s.sleeping <;> simp

@[simp] theorem clockedStep_eq_refused_iff {s : State} {body : State → Result} {r : Refusal} :
    clockedStep s body = .refused r ↔
      (r = .clockHalted ∧ s.sleeping = true) ∨ (s.sleeping = false ∧ body s = .refused r) := by
  unfold clockedStep
  cases s.sleeping <;> simp [eq_comm]

@[simp] theorem hostStep_eq_fault_iff {s : State} {body : State → Result} {f : Fault} :
    hostStep s body = .fault f ↔ (f = .held ∧ s.hostEnabled = false) ∨ (s.hostEnabled = true ∧ body s = .fault f) := by
  unfold hostStep
  cases s.hostEnabled <;> simp [eq_comm]

@[simp] theorem hostStep_eq_refused_iff {s : State} {body : State → Result} {r : Refusal} :
    hostStep s body = .refused r ↔ s.hostEnabled = true ∧ body s = .refused r := by
  unfold hostStep
  cases s.hostEnabled <;> simp

@[simp] theorem dispatch_eq_fault_iff {src : Source} {s : State} {service : State → State} {f : Fault} :
    dispatch src s service = .fault f ↔ f = .held ∧ s.nextService ≠ some src := by
  by_cases selected : s.nextService = some src
  · simp [dispatch, selected]
  · simp [dispatch, selected, eq_comm]

@[simp] theorem dispatch_ne_refused (src : Source) (s : State) (service : State → State) (r : Refusal) :
    dispatch src s service ≠ .refused r := by
  unfold dispatch
  split <;> simp

/-- A host step is enabled exactly awake and quiescent (R150). -/
theorem State.hostEnabled_iff (s : State) : s.hostEnabled = true ↔ s.sleeping = false ∧ s.quiescent = true := by
  simp [State.hostEnabled]

/-- RegRead has no value exactly at the reserved addresses (R54, R56). -/
theorem State.regRead_eq_none_iff (s : State) (a : RegAddr) : s.regRead a = none ↔ 0x0D ≤ a.toNat := by
  rw [← Option.isNone_iff_eq_none, ← Option.not_isSome, s.regRead_isSome a]
  simp

/-- The one fault of exec is the hold, at a step that is not enabled (R161). -/
theorem exec_eq_fault_iff {i : Instr} {s : State} {f : Fault} :
    exec i s = .fault f ↔ f = .held ∧ s.stepEnabled i = false := by
  cases i with
  | enc | btn => simp [exec, execEnc, execBtn, asyncStep, State.stepEnabled, Instr.role]
  | tickObs | tickCtrl | tickDisp =>
    simp [exec, execTickObs, execTickCtrl, execTickDisp, State.stepEnabled, Instr.role]
  | adc | dbtFire => simp [exec, execAdc, execDbtFire, State.stepEnabled, Instr.role, ite_eq_iff]
  | sync => simp [exec, execSync, State.stepEnabled, Instr.role, ite_eq_iff, eq_comm (b := f), and_comm]
  | hSample | hGoedge | hRecover | hSleep | hRearm | hSeten =>
    simp [exec, execHSample, execHGoedge, execHRecover, execHSleep, execHRearm, execHSeten, State.stepEnabled,
      Instr.role]
  | hRead a =>
    cases value : s.regRead a <;> simp [exec, execHRead, State.stepEnabled, Instr.role, value]
  | svcDisp | svcBtn | svcAdc | svcQed | svcDbt | svcCtrl | svcObs =>
    simp [exec, execSvcDisp, execSvcBtn, execSvcAdc, execSvcQed, execSvcDbt, execSvcCtrl, execSvcObs, State.stepEnabled,
      Instr.role]

/-- Settles O12: it holds, since the hold is the one fault of exec. -/
theorem execHoldsExactlyWhenNotEnabled : Obligations.ExecHoldsExactlyWhenNotEnabled :=
  fun _ _ => exec_eq_fault_iff.trans (and_iff_right rfl)

/-- Settles O15: it holds; only clocked words and H_READ refuse, X5 before the body's own X3 or X4, and X6 where RegRead
has no value. -/
theorem execRefusesExactlyAsTabled : Obligations.ExecRefusesExactlyAsTabled := by
  intro i s r
  cases i with
  | enc | btn => simp [exec, execEnc, execBtn, asyncStep]
  | tickObs | tickCtrl | tickDisp => simp [exec, execTickObs, execTickCtrl, execTickDisp]
  | adc | dbtFire => simp [exec, execAdc, execDbtFire, ite_eq_iff, eq_comm (b := r), and_comm, and_left_comm, and_assoc]
  | sync => simp [exec, execSync, ite_eq_iff]
  | hSample | hGoedge | hRecover | hSleep | hRearm | hSeten =>
    simp [exec, execHSample, execHGoedge, execHRecover, execHSleep, execHRearm, execHSeten]
  | hRead a =>
    have reserved := s.regRead_eq_none_iff a
    cases value : s.regRead a with
    | none =>
      rw [value] at reserved
      simp [exec, execHRead, value, reserved.mp rfl, s.hostEnabled_iff, eq_comm (b := r), and_comm]
    | some d =>
      rw [value] at reserved
      simp [exec, execHRead, value, reserved.not.mp nofun]
  | svcDisp | svcBtn | svcAdc | svcQed | svcDbt | svcCtrl | svcObs =>
    simp [exec, execSvcDisp, execSvcBtn, execSvcAdc, execSvcQed, execSvcDbt, execSvcCtrl, execSvcObs]

end Sys2Proof.Machine
end

section
/-! Who takes the next step (R10, R141): `State.nextMove_takes` says once what the schedule can take in a state, whatever
the scheduler; what a run does at a given word is read off from the moves of each scheduler. -/
namespace Sys2Proof.Machine

open Sys2Proof.Config

/-- Class and role agree for every operation (R71): the family WordClass, whole. -/
theorem Instr.classAgrees (i : Instr) : Laws.WordClass.Statement i := by
  cases i with
  | enc e a b => exact Laws.WordClass.enc e a b
  | btn l => exact Laws.WordClass.btn l
  | adc v => exact Laws.WordClass.adc v
  | hRead a => exact Laws.WordClass.hRead a
  | hSeten m => exact Laws.WordClass.hSeten m
  | tickObs | tickCtrl | tickDisp | dbtFire | sync | hSample | hGoedge | hRecover | hSleep | hRearm | svcDisp | svcBtn
  | svcAdc | svcQed | svcDbt | svcCtrl | svcObs => rfl

/-- A word that decodes has the class of its operation's role (R71). -/
theorem isHostClass_of_decode {w : Word} {i : Instr} (hd : decode w = .ok i) :
    isHostClass w = decide (i.role = .host) := by
  obtain ⟨wellFormed, hencode⟩ := encodeOfDecodeIsTheWord w i hd
  have agrees := Instr.classAgrees i
  simp only [Laws.WordClass.Statement, Laws.WordClass.classAgrees, hencode] at agrees
  simpa [wellFormed] using agrees

/-- With nothing to service, the only word that holds is a host word asleep (R136, R150, R161). -/
theorem State.held_word_is_host {s : State} {w : Word} {i : Instr} (hd : decode w = .ok i) (quiet : s.quiescent = true)
    (held : s.stepEnabled i = false) : i.role = .host ∧ s.sleeping = true := by
  have wellFormed := (encodeOfDecodeIsTheWord w i hd).1
  unfold State.stepEnabled at held
  unfold Instr.WellFormed Instr.hasWord at wellFormed
  cases role : i.role <;> simp_all [State.hostEnabled]

/-- An enabled host step finds the block awake (R150). -/
theorem State.awake_of_stepEnabled_host {s : State} {i : Instr} (enabled : s.stepEnabled i = true)
    (host : i.role = .host) : s.sleeping = false := by
  simp_all [State.stepEnabled, State.hostEnabled]

/-- A service is enabled exactly when its source is the selected one (R151). -/
theorem State.stepEnabled_service_eq (s : State) (src : Source) :
    s.stepEnabled src.service = (s.nextService == some src) := by
  cases src <;> rfl

/-- A selected service is enabled (R151). -/
theorem State.stepEnabled_service {s : State} {src : Source} (selected : s.nextService = some src) :
    s.stepEnabled src.service = true := by
  rw [State.stepEnabled_service_eq, selected]
  exact beq_self_eq_true _

/-! The moves of the trace schedulers. -/

/-- An enabled word at the head of the trace is taken (R141). -/
theorem State.headMove_enabled {s : State} {w : Word} {rest : List Word} {i : Instr} (hs : s.stream = w :: rest)
    (hd : decode w = .ok i) (enabled : s.stepEnabled i = true) : s.headMove = .run i { s with stream := rest } := by
  have notAsleep : ¬(i.role = .host ∧ s.sleeping = true) := fun ⟨host, asleep⟩ => by
    simp [State.awake_of_stepEnabled_host enabled host] at asleep
  simp [State.headMove, hs, hd, notAsleep, enabled]

theorem State.eagerMove_selected {s : State} {src : Source} (selected : s.nextService = some src) :
    s.eagerMove = .run src.service s := by
  simp [State.eagerMove, State.dspMove, selected]

theorem State.eagerMove_unselected {s : State} (unselected : s.nextService = none) : s.eagerMove = s.headMove := by
  simp [State.eagerMove, State.dspMove, unselected]

theorem State.lazyMove_empty {s : State} (hs : s.stream = []) : s.lazyMove = s.eagerMove := by
  simp [State.lazyMove, hs]

theorem State.lazyMove_illegal {s : State} {w : Word} {rest : List Word} {e : IllegalWord} (hs : s.stream = w :: rest)
    (hd : decode w = .error e) : s.lazyMove = .refuse .illegalWord := by
  simp [State.lazyMove, State.headMove, hs, hd]

theorem State.lazyMove_enabled {s : State} {w : Word} {rest : List Word} {i : Instr} (hs : s.stream = w :: rest)
    (hd : decode w = .ok i) (enabled : s.stepEnabled i = true) : s.lazyMove = .run i { s with stream := rest } := by
  rw [← State.headMove_enabled hs hd enabled]
  simp [State.lazyMove, hs, hd, enabled]

theorem State.lazyMove_held {s : State} {w : Word} {rest : List Word} {i : Instr} (hs : s.stream = w :: rest)
    (hd : decode w = .ok i) (held : s.stepEnabled i = false) : s.lazyMove = s.eagerMove := by
  simp [State.lazyMove, hs, hd, held]

/-- Settles O7: it holds; EAGER with nothing to service and LAZY at an enabled word both take the head of the trace. -/
theorem stepRunsTheDecodedWordOfATrace : Obligations.StepRunsTheDecodedWordOfATrace := by
  intro s w rest i hs hd enabled scheduler
  obtain ⟨eager, unselected⟩ | lazy := scheduler
  · simp [step, State.nextMove, eager, State.eagerMove_unselected unselected, State.headMove_enabled hs hd enabled]
  · simp [step, State.nextMove, lazy, State.lazyMove_enabled hs hd enabled]

/-- Settles O8: it holds, as `stepRunsTheDecodedWordOfATrace` at the loaded word under LAZY. -/
theorem stepRunsTheFetchedWord : Obligations.StepRunsTheFetchedWord := by
  intro s w i hw enabled
  have hd : decode (tableWord 16 w) = .ok i := by
    unfold decodeTableWord at hw
    split at hw
    · next hd => rw [hd, Option.some.inj hw]
    · cases hw
  exact stepRunsTheDecodedWordOfATrace (s.withFetchWord 16 w) (tableWord 16 w) s.stream i rfl hd enabled (.inr rfl)

/-- Settles O9: it holds; LAZY asks as EAGER does at a held word and at the end of the trace. -/
theorem traceSchedulersTakeTheSelectedService : Obligations.TraceSchedulersTakeTheSelectedService := by
  intro s src selected
  have eagerMove := State.eagerMove_selected selected
  refine ⟨fun eager => ?_, fun lazy hs => ?_, fun lazy w rest i hs hd held => ?_⟩
  · simp [step, State.nextMove, eager, eagerMove]
  · simp [step, State.nextMove, lazy, State.lazyMove_empty hs, eagerMove]
  · simp [step, State.nextMove, lazy, State.lazyMove_held hs hd held, eagerMove]

/-! The moves of the general relation. -/

/-- The first word of a class is found behind words of the other class, which stay (R10). -/
theorem takeFirst_append {p : Word → Bool} {front : List Word} {w : Word} (back : List Word)
    (hfront : ∀ x ∈ front, p x = false) (hw : p w = true) :
    takeFirst p (front ++ w :: back) = some (w, front ++ back) := by
  induction front with
  | nil => exact takeFirst_head back hw
  | cons x xs ih =>
    have hx := hfront x (List.mem_cons_self ..)
    have hxs := ih fun y hy => hfront y (List.mem_cons_of_mem x hy)
    simp [takeFirst, hx, hxs]

/-- No word of a class is found exactly where none is left. -/
theorem takeFirst_eq_none_iff {p : Word → Bool} {ws : List Word} :
    takeFirst p ws = none ↔ ∀ w ∈ ws, p w = false := by
  induction ws with
  | nil => simp [takeFirst]
  | cons x xs ih =>
    rw [List.forall_mem_cons, ← ih, takeFirst]
    cases p x <;> cases takeFirst p xs <;> simp

theorem State.nextMove_general {s : State} (general : s.sched = .general) : s.nextMove = s.generalMove := by
  simp only [State.nextMove, general]

/-- The agent whose turn it is takes its enabled step (R10). -/
theorem step_of_turn {s u : State} {a : Agent} {ts : List Agent} {i : Instr} (general : s.sched = .general)
    (hturns : s.turns = a :: ts) (hmove : { s with turns := ts }.agentMove a = some (.run i u)) : step s = exec i u := by
  simp only [step, State.nextMove_general general, State.generalMove, hturns, hmove]

/-- An agent's enabled word is its move (R10). -/
theorem State.classMove_enabled {s : State} {p : Word → Bool} {w : Word} {rest : List Word} {i : Instr}
    (hfirst : takeFirst p s.stream = some (w, rest)) (hd : decode w = .ok i) (enabled : s.stepEnabled i = true) :
    s.classMove p = some (.run i { s with stream := rest }) := by
  simp [State.classMove, hfirst, State.wordMove, hd, enabled]

/-- Settles O10: it holds; each agent's enabled step is its move, and its turn takes it. -/
theorem anyAgentsEnabledStepCanComeNext : Obligations.AnyAgentsEnabledStepCanComeNext := by
  intro s ts general
  refine ⟨fun src hturns selected => ?dsp, fun front back w i hs hd enabled =>
    ⟨fun hturns env hfront => ?env, fun hturns host hfront => ?host⟩⟩
  case dsp =>
    have selected' : { s with turns := ts }.nextService = some src := selected
    exact step_of_turn general hturns (by simp [State.agentMove, State.dspMove, selected'])
  case env =>
    have hfirst : takeFirst (fun x => !isHostClass x) s.stream = some (w, front ++ back) := by
      rw [hs]
      exact takeFirst_append back (by simpa using hfront) (by simp [env])
    exact step_of_turn general hturns (State.classMove_enabled (s := { s with turns := ts }) hfirst hd enabled)
  case host =>
    have hfirst : takeFirst isHostClass s.stream = some (w, front ++ back) := by
      rw [hs]
      exact takeFirst_append back hfront host
    exact step_of_turn general hturns (State.classMove_enabled (s := { s with turns := ts }) hfirst hd enabled)

/-! Every move, whatever the scheduler. -/

/-- Only a sleep with host words alone left is stuck: none left, or, under the general relation, one that holds. -/
def State.AsleepWithHostWordsOnly (s : State) : Prop :=
  s.sleeping = true ∧ (∀ w ∈ s.stream, isHostClass w = true) ∧
    (s.stream = [] ∨ (s.sched = .general ∧ ∃ w rest i, s.stream = w :: rest ∧ decode w = .ok i))

/-- What the schedule can take in a state, and what it leaves of the stream and the turns: the selected service; an
enabled word of the stream; a refusal X1 or X2; nothing; or, where the sleep clause of R51 holds, being stuck asleep. -/
inductive State.Takes (s : State) : Move → Prop
  | service (src : Source) (turns : List Agent) :
      s.nextService = some src → Takes s (.run src.service { s with turns := turns })
  | word (front back : List Word) (w : Word) (i : Instr) (turns : List Agent) :
      s.stream = front ++ w :: back → decode w = .ok i → s.stepEnabled i = true →
      Takes s (.run i { s with stream := front ++ back, turns := turns })
  | illegalWord : s.stream ≠ [] → Takes s (.refuse .illegalWord)
  | hostWhileAsleep (w : Word) (rest : List Word) (i : Instr) :
      s.sched ≠ .general → s.sleeping = true → s.stream = w :: rest → decode w = .ok i → i.role = .host →
      Takes s (.refuse .hostWhileAsleep)
  | idle : s.sleeping = false → s.stream = [] → s.nextService = none → Takes s .idle
  | stuck : (s.SleepQuiet → s.AsleepWithHostWordsOnly) → Takes s .stuck

/-- Where nothing is selected, the sleep clause leaves no source pending and enabled (R51, R148). -/
theorem State.quiescent_of_unselected {s : State} (unselected : s.nextService = none) (sleepQuiet : s.SleepQuiet) :
    s.quiescent = true :=
  (s.nextService_eq_none.mp unselected).elim sleepQuiet id

theorem State.takes_dspMove {s : State} {m : Move} {turns : List Agent}
    (hm : { s with turns := turns }.dspMove = some m) : s.Takes m := by
  unfold State.dspMove at hm
  split at hm
  · cases hm
  · next src selected =>
    cases hm
    exact .service src turns selected

theorem State.takes_classMove {s : State} {m : Move} {p : Word → Bool} {turns : List Agent}
    (hm : { s with turns := turns }.classMove p = some m) : s.Takes m := by
  unfold State.classMove at hm
  split at hm
  · cases hm
  · next w rest hfirst =>
    obtain ⟨front, back, hs, rfl, -, -⟩ := takeFirst_eq_some hfirst
    unfold State.wordMove at hm
    split at hm
    · cases hm
      exact .illegalWord (hs ▸ List.append_ne_nil_of_right_ne_nil _ (List.cons_ne_nil _ _))
    · next i hd =>
      split at hm
      · next enabled =>
        cases hm
        exact .word front back w i turns hs hd enabled
      · cases hm

theorem State.takes_agentMove {s : State} {m : Move} {a : Agent} {turns : List Agent}
    (hm : { s with turns := turns }.agentMove a = some m) : s.Takes m := by
  cases a with
  | env => exact State.takes_classMove hm
  | dsp => exact State.takes_dspMove hm
  | host => exact State.takes_classMove hm

/-- A class whose agent has no step has no word left, or its first one holds (R161). -/
theorem State.classMove_eq_none {s : State} {p : Word → Bool} (hm : s.classMove p = none) :
    (∀ w ∈ s.stream, p w = false) ∨
      ∃ w rest i, takeFirst p s.stream = some (w, rest) ∧ decode w = .ok i ∧ s.stepEnabled i = false := by
  unfold State.classMove at hm
  split at hm
  · next hfirst => exact .inl (takeFirst_eq_none_iff.mp hfirst)
  · next w rest hfirst =>
    unfold State.wordMove at hm
    split at hm
    · cases hm
    · next i hd =>
      split at hm
      · cases hm
      · next held => exact .inr ⟨w, rest, i, hfirst, hd, by simpa using held⟩

theorem State.nextService_of_dspMove {s : State} (hm : s.dspMove = none) : s.nextService = none := by
  unfold State.dspMove at hm
  split at hm
  · next unselected => exact unselected
  · cases hm

/-- At the end of every agent's moves the block is idle when awake with no word left, else stuck (R161, R185). -/
theorem State.takes_endMove {s : State} (turns : List Agent) (unselected : s.nextService = none)
    (stuck : s.sleeping = true ∨ s.stream ≠ [] → s.SleepQuiet → s.AsleepWithHostWordsOnly) :
    s.Takes { s with turns := turns }.endMove := by
  unfold State.endMove
  split
  · next ends => exact .stuck (stuck (by simpa using ends))
  · next ends =>
    obtain ⟨awake, empty⟩ : s.sleeping = false ∧ s.stream = [] := by simpa using ends
    exact .idle awake empty unselected

/-- Under the general relation, where no agent has a step only host words are left, and the block sleeps (R161). -/
theorem State.asleepWithHostWordsOnly_of_no_agentMove {s : State} (general : s.sched = .general)
    (noMove : ∀ a, s.agentMove a = none) (ends : s.sleeping = true ∨ s.stream ≠ []) (sleepQuiet : s.SleepQuiet) :
    s.AsleepWithHostWordsOnly := by
  have quiet := s.quiescent_of_unselected (State.nextService_of_dspMove (noMove .dsp)) sleepQuiet
  have hostOnly : ∀ w ∈ s.stream, isHostClass w = true := by
    obtain noneLeft | ⟨w, rest, i, hfirst, hd, held⟩ := State.classMove_eq_none (noMove .env)
    · simpa using noneLeft
    · obtain ⟨-, -, -, -, env, -⟩ := takeFirst_eq_some hfirst
      obtain ⟨host, -⟩ := State.held_word_is_host hd quiet held
      simp [isHostClass_of_decode hd, host] at env
  obtain noneLeft | ⟨w, rest, i, hfirst, hd, held⟩ := State.classMove_eq_none (noMove .host)
  · have empty : s.stream = [] := List.eq_nil_iff_forall_not_mem.mpr fun w hw => by
      simpa [hostOnly w hw] using noneLeft w hw
    exact ⟨ends.resolve_right (· empty), hostOnly, .inl empty⟩
  · obtain ⟨-, asleep⟩ := State.held_word_is_host hd quiet held
    refine ⟨asleep, hostOnly, .inr ⟨general, w, rest, i, ?_, hd⟩⟩
    cases hs : s.stream with
    | nil => simp [hs, takeFirst] at hfirst
    | cons x xs =>
      rw [hs, takeFirst_head xs (hostOnly x (hs ▸ List.mem_cons_self ..))] at hfirst
      cases hfirst
      rfl

theorem State.takes_anyMove {s : State} (turns : List Agent) (general : s.sched = .general) :
    s.Takes { s with turns := turns }.anyMove := by
  unfold State.anyMove
  split
  · next m hm => exact State.takes_agentMove hm
  · next dsp =>
    split
    · next m hm => exact State.takes_agentMove hm
    · next env =>
      split
      · next m hm => exact State.takes_agentMove hm
      · next host =>
        have noMove (a : Agent) : { s with turns := turns }.agentMove a = none := by
          cases a with
          | env => exact env
          | dsp => exact dsp
          | host => exact host
        exact State.takes_endMove turns (State.nextService_of_dspMove (s := { s with turns := turns }) dsp)
          (State.asleepWithHostWordsOnly_of_no_agentMove (s := { s with turns := turns }) general noMove)

theorem State.takes_generalMove {s : State} (general : s.sched = .general) : s.Takes s.generalMove := by
  unfold State.generalMove
  split
  · exact State.takes_anyMove s.turns general
  · next a turns _ =>
    split
    · next m hm => exact State.takes_agentMove hm
    · exact State.takes_anyMove turns general

theorem State.takes_headMove {s : State} (trace : s.sched ≠ .general) (unselected : s.nextService = none) :
    s.Takes s.headMove := by
  unfold State.headMove
  split
  · next hs =>
    refine State.takes_endMove s.turns unselected fun ends _ => ⟨ends.resolve_right (· hs), ?_, .inl hs⟩
    simp [hs]
  · next w rest hs =>
    split
    · exact .illegalWord (hs ▸ List.cons_ne_nil _ _)
    · next i hd =>
      split
      · next hostAsleep => exact .hostWhileAsleep w rest i trace hostAsleep.2 hs hd hostAsleep.1
      · next notHostAsleep =>
        split
        · next enabled => exact .word [] rest w i s.turns hs hd enabled
        · next held =>
          refine .stuck fun sleepQuiet => absurd ?_ notHostAsleep
          exact State.held_word_is_host hd (s.quiescent_of_unselected unselected sleepQuiet) (by simpa using held)

theorem State.takes_eagerMove {s : State} (trace : s.sched ≠ .general) : s.Takes s.eagerMove := by
  unfold State.eagerMove
  split
  · next m hm => exact State.takes_dspMove (turns := s.turns) hm
  · next dsp => exact State.takes_headMove trace (State.nextService_of_dspMove dsp)

theorem State.takes_lazyMove {s : State} (trace : s.sched ≠ .general) : s.Takes s.lazyMove := by
  cases hs : s.stream with
  | nil => exact State.lazyMove_empty hs ▸ State.takes_eagerMove trace
  | cons w rest =>
    cases hd : decode w with
    | error e => exact State.lazyMove_illegal hs hd ▸ .illegalWord (hs ▸ List.cons_ne_nil _ _)
    | ok i =>
      cases enabled : s.stepEnabled i with
      | true => exact State.lazyMove_enabled hs hd enabled ▸ .word [] rest w i s.turns hs hd enabled
      | false => exact State.lazyMove_held hs hd enabled ▸ State.takes_eagerMove trace

/-- What the schedule takes next, by the scheduler in force. -/
theorem State.nextMove_takes (s : State) : s.Takes s.nextMove := by
  unfold State.nextMove
  split
  · next general => exact State.takes_generalMove general
  · next eager => exact State.takes_eagerMove (by simp [eager])
  · next lazy => exact State.takes_lazyMove (by simp [lazy])

/-- A step that the schedule takes is enabled, and it is taken in the same state but for the schedule (R10, R141). -/
theorem State.Takes.run_enabled {s u : State} {i : Instr} (takes : s.Takes (.run i u)) :
    s.stepEnabled i = true ∧ ∃ stream turns, u = { s with stream := stream, turns := turns } := by
  cases takes with
  | service src turns selected => exact ⟨State.stepEnabled_service selected, s.stream, turns, rfl⟩
  | word front back w i turns hs hd enabled => exact ⟨enabled, front ++ back, turns, rfl⟩

/-- What a refusal of a run came from (R159, R161). -/
theorem step_eq_refused {s : State} {r : Refusal} (h : step s = .refused r) :
    s.nextMove = .refuse r ∨ ∃ i u, s.nextMove = .run i u ∧ exec i u = .refused r := by
  unfold step at h
  split at h
  · next i u hm => exact .inr ⟨i, u, hm, h⟩
  · next r' hm =>
    cases h
    exact .inl hm
  · cases h
  · cases h

/-- What a fault of a run came from: the schedule takes only enabled steps, so it is not a hold (R161). -/
theorem step_eq_fault_iff {s : State} {f : Fault} : step s = .fault f ↔ f = .stuck ∧ s.nextMove = .stuck := by
  have takes := s.nextMove_takes
  unfold step
  cases hm : s.nextMove with
  | run i u =>
    rw [hm] at takes
    obtain ⟨enabled, stream, turns, rfl⟩ := takes.run_enabled
    have enabled' : { s with stream := stream, turns := turns }.stepEnabled i = true := enabled
    simp [exec_eq_fault_iff, enabled']
  | refuse r => simp
  | idle => simp
  | stuck => simp [eq_comm]

/-- Settles O13: it holds, since the one fault of a run is stuck. -/
theorem stepNeverStopsOnAHold : Obligations.StepNeverStopsOnAHold := by
  intro s h
  obtain ⟨isStuck, -⟩ := step_eq_fault_iff.mp h
  cases isStuck

/-- Settles O11: it holds; X2 is a move of the trace schedulers at a host word asleep, where nothing is selected, and no
operation refuses so. -/
theorem refusedX2ExactlyForATraceHostWordAsleep : Obligations.RefusedX2ExactlyForATraceHostWordAsleep := by
  intro s
  constructor
  · intro h
    obtain hm | ⟨i, u, -, refused⟩ := step_eq_refused h
    · have takes := s.nextMove_takes
      rw [hm] at takes
      cases takes with
      | hostWhileAsleep w rest i trace asleep hs hd host => exact ⟨trace, asleep, w, rest, i, hs, hd, host⟩
    · simpa using (execRefusesExactlyAsTabled i u _).mp refused
  · rintro ⟨trace, asleep, w, rest, i, hs, hd, host⟩
    have unselected := s.nextService_eq_none.mpr (.inl asleep)
    have held : s.stepEnabled i = false := Bool.eq_false_iff.mpr fun enabled => by
      simp [State.awake_of_stepEnabled_host enabled host] at asleep
    have head : s.headMove = .refuse .hostWhileAsleep := by simp [State.headMove, hs, hd, host, asleep]
    cases hsched : s.sched with
    | general => exact absurd hsched trace
    | eager => simp [step, State.nextMove, hsched, State.eagerMove_unselected unselected, head]
    | lazy =>
      simp [step, State.nextMove, hsched, State.lazyMove_held hs hd held, State.eagerMove_unselected unselected, head]

/-- Asleep with host words only, the first of which decodes if there is one, no agent has a step (R150, R161). -/
theorem State.agentMove_asleep {s : State} (asleep : s.sleeping = true) (hostOnly : ∀ w ∈ s.stream, isHostClass w = true)
    (decodes : ∀ w rest, s.stream = w :: rest → ∃ i, decode w = .ok i) (a : Agent) : s.agentMove a = none := by
  cases a with
  | env =>
    have noWord : takeFirst (fun w => !isHostClass w) s.stream = none := takeFirst_eq_none_iff.mpr (by simpa using hostOnly)
    simp [State.agentMove, State.classMove, noWord]
  | dsp => simp [State.agentMove, State.dspMove, s.nextService_eq_none.mpr (.inl asleep)]
  | host =>
    cases hs : s.stream with
    | nil => simp [State.agentMove, State.classMove, hs, takeFirst]
    | cons w rest =>
      obtain ⟨i, hd⟩ := decodes w rest hs
      have hostClass := hostOnly w (hs ▸ List.mem_cons_self ..)
      have host : i.role = .host := by simpa [hostClass] using isHostClass_of_decode hd
      have held : s.stepEnabled i = false := by simp [State.stepEnabled, host, State.hostEnabled, asleep]
      simp [State.agentMove, State.classMove, hs, takeFirst_head rest hostClass, State.wordMove, hd, held]

/-- Asleep, the end of every agent's moves is stuck (R185). -/
theorem State.anyMove_asleep {s : State} (asleep : s.sleeping = true) (noMove : ∀ a, s.agentMove a = none) :
    s.anyMove = .stuck := by
  simp [State.anyMove, noMove, State.endMove, asleep]

/-- Under the general relation a sleep with host words only is stuck, whoever's turn it is (R161, R185). -/
theorem State.generalMove_asleep {s : State} (asleep : s.sleeping = true)
    (hostOnly : ∀ w ∈ s.stream, isHostClass w = true)
    (decodes : ∀ w rest, s.stream = w :: rest → ∃ i, decode w = .ok i) : s.generalMove = .stuck := by
  have noMove (turns : List Agent) : ∀ a, { s with turns := turns }.agentMove a = none :=
    State.agentMove_asleep (s := { s with turns := turns }) asleep hostOnly decodes
  unfold State.generalMove
  split
  · exact State.anyMove_asleep asleep (noMove s.turns)
  · next a turns _ =>
    rw [noMove turns a]
    exact State.anyMove_asleep (s := { s with turns := turns }) asleep (noMove turns)

/-- Settles O14: it holds. A stuck run is asleep with host words only by what the schedule can take
(`State.nextMove_takes`); conversely a sleeping block selects no service and enables no host word. -/
theorem stuckExactlyAsleepWithOnlyHostWordsLeft : Obligations.StuckExactlyAsleepWithOnlyHostWordsLeft := by
  intro s sleepQuiet
  rw [step_eq_fault_iff, and_iff_right rfl]
  constructor
  · intro hm
    have takes := s.nextMove_takes
    rw [hm] at takes
    cases takes with
    | stuck only => exact only sleepQuiet
  · rintro ⟨asleep, hostOnly, empty | ⟨general, w, rest, i, hs, hd⟩⟩
    · have unselected := s.nextService_eq_none.mpr (.inl asleep)
      have eager : s.eagerMove = .stuck := by
        simp [State.eagerMove_unselected unselected, State.headMove, empty, State.endMove, asleep]
      cases hsched : s.sched with
      | general => exact (State.nextMove_general hsched).trans (State.generalMove_asleep asleep hostOnly (by simp [empty]))
      | eager => simp [State.nextMove, hsched, eager]
      | lazy => simp [State.nextMove, hsched, State.lazyMove_empty empty, eager]
    · refine (State.nextMove_general general).trans (State.generalMove_asleep asleep hostOnly fun w' rest' hs' => ?_)
      obtain ⟨rfl, -⟩ := List.cons.inj (hs.symm.trans hs')
      exact ⟨i, hd⟩

end Sys2Proof.Machine
end

section
/-! Reset and the invariants (R48, R51, R52): each clause of `State.Inv` is kept by exec, by the few operations that
write its elements; a run's steps are steps of exec in a state that differs in the schedule only. -/
namespace Sys2Proof.Machine

open Sys2Proof.Config

/-- Settles O16: it holds, element by element, by the table of `State.resetWith`. -/
theorem resetLeavesTheListedValues : Obligations.ResetLeavesTheListedValues := by
  refine ⟨rfl, rfl, fun p => ⟨Latches.none, ⟨rfl, rfl, rfl, rfl, rfl, rfl⟩, ?_⟩⟩
  obtain ⟨qtab, sensors, head, histReset, toggleOn, gated, lines0, lines1, button⟩ := p
  cases histReset <;> rfl

theorem State.initial_inv {p : Params} (stream : List Word) (sched : Scheduler) (turns : List Agent)
    (wellFormed : p.WellFormed) : (State.initial p stream sched turns).Inv := by
  have cursors : (State.initial p stream sched turns).CursorsAgree :=
    ⟨nofun, .inl rfl, iff_of_false (fun ahead => ahead rfl) nofun⟩
  have debounce : (State.initial p stream sched turns).DebounceAgrees :=
    ⟨fun h => h.elim nofun nofun, nofun⟩
  exact ⟨wellFormed, cursors, debounce, List.mem_cons_self .., nofun⟩

/-- Settles O17: it holds; the default parameters are legal, and reset is a start of a run. -/
theorem invHoldsAtReset : Obligations.InvHoldsAtReset :=
  ⟨State.initial_inv [] .eager [] (by decide), fun _ stream sched turns => State.initial_inv stream sched turns⟩

/-- The ring of sensors: no sensor follows itself, and three steps lead back (R26). -/
theorem succ_cycle {p : Params} (wellFormed : p.WellFormed) (i : SensorId) :
    p.succ i ≠ i ∧ p.succ (p.succ (p.succ i)) = i := by
  simp only [Bool.and_eq_true] at wellFormed
  obtain ⟨-, cycle⟩ := wellFormed
  simpa using List.all_eq_true.mp cycle i (List.mem_finRange i)

/-- Below 3 is where a two-bit count is not 3 (R28). -/
theorem toNat_lt_three {rc : BitVec 2} (notThree : rc ≠ 3) : rc.toNat < 3 := by
  revert rc
  decide

/-! The cursors. -/

/-- Adoption makes NXT the loaded sensor, before its first or its second reading (R99). -/
theorem State.seqAdopt_cursors {s : State} (agree : s.CursorsAgree) :
    s.seqAdopt.nxt = s.seqAdopt.cur ∧ (s.seqAdopt.rc = 0 ∨ s.seqAdopt.rc = 1) := by
  obtain ⟨notThree, -, advanced⟩ := agree
  obtain ⟨same, kept⟩ | ⟨-, -, published⟩ | ⟨-, -, adopted⟩ := s.seqAdopt_cases
  · have notTwo : s.rc ≠ 2 := fun two => advanced.mpr two same
    rw [kept]
    exact ⟨same, by bv_omega⟩
  · rw [published]
    exact ⟨rfl, .inl rfl⟩
  · rw [adopted]
    exact ⟨rfl, .inl rfl⟩

/-- A counted reading leaves the cursors agreeing (R101, R103). -/
theorem State.seqCount_cursors {s : State} (v : BitVec 12) (wellFormed : s.params.WellFormed) (same : s.nxt = s.cur)
    (reading : s.rc = 0 ∨ s.rc = 1) : (s.seqCount v).CursorsAgree := by
  obtain ⟨-, measured⟩ | ⟨notSecond, counted⟩ := s.seqCount_cases v
  · have ahead : (s.sensor s.cur).succ ≠ s.cur := (succ_cycle wellFormed s.cur).1
    rw [measured]
    exact ⟨nofun, .inr rfl, iff_of_true ahead rfl⟩
  · have first := reading.resolve_right notSecond
    rw [counted]
    exact ⟨by simp [first], .inl same, by simp [first, same]⟩

theorem State.runSequencer_cursors {s : State} (wellFormed : s.params.WellFormed) (agree : s.CursorsAgree) :
    s.runSequencer.CursorsAgree := by
  obtain ⟨-, kept⟩ | ⟨-, processed⟩ := s.runSequencer_cases
  · rwa [kept]
  · obtain ⟨same, reading⟩ := State.seqAdopt_cursors (s := { s with adf := false }) agree
    rw [processed]
    refine State.seqCount_cursors _ ?_ same reading
    rwa [State.seqAdopt_frame]

/-- The cursors clause (R51) is kept: only H_SAMPLE writes them. -/
theorem exec_keeps_cursors {i : Instr} {s t : State} (h : exec i s = .next t) (wellFormed : s.params.WellFormed)
    (agree : s.CursorsAgree) : t.CursorsAgree := by
  by_cases sample : i = .hSample
  · subst sample
    obtain ⟨-, -, rfl⟩ := execHSample_next h
    exact State.runSequencer_cursors wellFormed agree
  · obtain ⟨cur, nxt, rc, -⟩ := onlySampleWritesTheSequencer i s t h sample
    obtain ⟨-, params, -⟩ := logOnlyGrowsAndParametersStay i s t h
    simpa only [State.CursorsAgree, cur, nxt, rc, params] using agree

/-! The debounce clause. -/

/-- The debounce clause (R51) is kept: DBT_FIRE fires an armed one-shot, SVC_BTN arms it anew, and SVC_DBT finds it
fired. -/
theorem exec_keeps_debounce {i : Instr} {s t : State} (h : exec i s = .next t) (agree : s.DebounceAgrees) :
    t.DebounceAgrees := by
  obtain ⟨debouncing, notBoth⟩ := agree
  by_cases fire : i = .dbtFire
  · subst fire
    obtain ⟨-, armed, rfl⟩ := execDbtFire_next h
    exact ⟨fun _ => debouncing (.inl armed), by simp⟩
  by_cases svcBtn : i = .svcBtn
  · subst svcBtn
    obtain ⟨-, -, rfl⟩ := execSvcBtn_next h
    exact ⟨fun _ => rfl, by simp [State.armDebounce]⟩
  by_cases svcDbt : i = .svcDbt
  · subst svcDbt
    obtain ⟨selected, -, rfl⟩ := execSvcDbt_next h
    have fired : s.latch.dbt = true := by
      have := State.nextService_serviceable selected
      simp_all [State.serviceable, State.wanted, State.pend]
    have unarmed : s.dbtArmed = false := by simpa [fired] using notBoth
    obtain ⟨-, confirmed⟩ | ⟨idle, -⟩ := (s.setPend .dbt false).confirmDebounce_cases
    · rw [confirmed, State.writeEnBtn_eq]
      simp [State.DebounceAgrees, unarmed]
    · simp [debouncing (.inr fired)] at idle
  · obtain ⟨-, dbState, dbtArmed, dbt, -⟩ := writersOfDebounceEnablesAndSleep i s t h
    simpa only [State.DebounceAgrees, dbState svcBtn svcDbt, dbtArmed fire svcBtn, dbt fire svcBtn svcDbt] using
      And.intro debouncing notBoth

/-! The duty pair. -/

/-- The classifier's duty pairs are legal (R35, R122). -/
theorem classify_normal_legal {p : Pattern} {r l : BitVec 8} (h : classify p = .normal r l) : (r, l) ∈ dutyPairs := by
  unfold classify at h
  split at h <;> cases h <;> decide

/-- The duty clause (R35, R51) is kept: SVC_CTRL writes a pair of the classifier's or none. -/
theorem exec_keeps_duty {i : Instr} {s t : State} (h : exec i s = .next t) (legal : s.DutyLegal) : t.DutyLegal := by
  by_cases svcCtrl : i = .svcCtrl
  · subst svcCtrl
    obtain ⟨-, -, rfl⟩ := execSvcCtrl_next h
    obtain ⟨-, -, kept⟩ | ⟨-, classified⟩ := (s.setPend .ctrl false).controlPeriod_cases
    · rwa [kept]
    · rw [classified]
      cases status : classify (s.setPend .ctrl false).lp with
      | normal r l => exact classify_normal_legal status
      | lost | stop => exact legal
  · obtain ⟨-, duty, -⟩ := writersOfFaultCountersDutyAndGoLatch i s t h
    obtain ⟨dutyR, dutyL⟩ := duty svcCtrl
    simpa only [State.DutyLegal, dutyR, dutyL] using legal

/-! The sleep clause. -/

/-- Asleep only ENC, BTN and SYNC answer a next state: SYNC nothing new, the others with the wake (R159, R164, R165). -/
theorem exec_next_asleep {i : Instr} {s t : State} (asleep : s.sleeping = true) (h : exec i s = .next t) :
    (i = .sync ∧ s.quiescent = true ∧ t = s) ∨ (∃ e a b, i = .enc e a b ∧ t = (s.setLines e (lineState a b)).wake) ∨
      ∃ l, i = .btn l ∧ t = (s.buttonLevel l).wake := by
  have enabled : s.stepEnabled i = true := by
    by_contra held
    have := exec_eq_fault_iff.mpr ⟨rfl, Bool.eq_false_iff.mpr held⟩
    rw [h] at this
    cases this
  have unselected := s.nextService_eq_none.mpr (.inl asleep)
  have halted := (execRefusesExactlyAsTabled i s .clockHalted).mpr
  cases i with
  | sync => exact .inl ⟨rfl, execSync_next h⟩
  | enc e a b =>
    have := execEnc_next h
    exact .inr (.inl ⟨e, a, b, rfl, by simpa [asleep] using this⟩)
  | btn l =>
    have := execBtn_next h
    exact .inr (.inr ⟨l, rfl, by simpa [asleep] using this⟩)
  | adc | tickObs | tickCtrl | tickDisp | dbtFire =>
    rw [halted (.inl ⟨rfl, asleep, by simp⟩)] at h
    cases h
  | hSample | hGoedge | hRecover | hSleep | hRearm | hRead | hSeten =>
    simp [State.stepEnabled, Instr.role, State.hostEnabled, asleep] at enabled
  | svcDisp | svcBtn | svcAdc | svcQed | svcDbt | svcCtrl | svcObs =>
    simp [State.stepEnabled, Instr.role, unselected] at enabled

/-- The wake leaves the sleep clause true (R165). -/
theorem State.wake_sleepQuiet (s : State) : s.wake.SleepQuiet := by
  unfold State.wake
  split
  · next quiet => exact fun _ => quiet
  · exact nofun

/-- The edge detector leaves SLEEPING (R109). -/
theorem State.buttonLevel_sleeping (s : State) (l : Bool) : (s.buttonLevel l).sleeping = s.sleeping := by
  obtain ⟨-, -, -, latched⟩ | ⟨-, lineOnly⟩ := s.buttonLevel_cases l
  · rw [latched]
  · rw [lineOnly]

/-- The sleep clause (R51) is kept: a step asleep ends with the wake, and only H_SLEEP, quiescent, goes to sleep. -/
theorem exec_keeps_sleepQuiet {i : Instr} {s t : State} (h : exec i s = .next t) (sleepQuiet : s.SleepQuiet) :
    t.SleepQuiet := by
  cases asleep : s.sleeping with
  | true =>
    obtain ⟨-, -, rfl⟩ | ⟨e, a, b, -, rfl⟩ | ⟨l, -, rfl⟩ := exec_next_asleep asleep h
    · exact sleepQuiet
    · exact State.wake_sleepQuiet _
    · exact State.wake_sleepQuiet _
  | false =>
    intro asleepAfter
    by_cases written : Element.sleeping.WrittenBy i
    case neg =>
      have kept : t.sleeping = s.sleeping := exec_next_same h written
      simp [kept, asleep] at asleepAfter
    obtain rfl | ⟨e, a, b, rfl⟩ | ⟨l, rfl⟩ := written
    · obtain ⟨-, quiet, rfl⟩ := execHSleep_next h
      exact quiet
    · rw [execEnc_next h] at asleepAfter
      simp [asleep] at asleepAfter
    · rw [execBtn_next h] at asleepAfter
      simp [asleep, State.buttonLevel_sleeping] at asleepAfter

/-- Every operation keeps the invariants (R51). -/
theorem exec_keeps_inv {i : Instr} {s t : State} (h : exec i s = .next t) (inv : s.Inv) : t.Inv := by
  obtain ⟨wellFormed, cursors, debounce, duty, sleepQuiet⟩ := inv
  obtain ⟨-, params, -⟩ := logOnlyGrowsAndParametersStay i s t h
  exact ⟨params ▸ wellFormed, exec_keeps_cursors h wellFormed cursors, exec_keeps_debounce h debounce,
    exec_keeps_duty h duty, exec_keeps_sleepQuiet h sleepQuiet⟩

/-- A step of a run that answers a next state is exec of an enabled operation, up to the schedule, or idle. -/
theorem step_next_exec {s t : State} (h : step s = .next t) :
    (∃ i stream turns, s.stepEnabled i = true ∧ exec i { s with stream := stream, turns := turns } = .next t) ∨
      (s.sleeping = false ∧ t = s) := by
  have takes := s.nextMove_takes
  obtain ⟨i, u, hm, hexec⟩ | ⟨hm, rfl⟩ := step_next h
  · rw [hm] at takes
    obtain ⟨enabled, stream, turns, rfl⟩ := takes.run_enabled
    exact .inl ⟨i, stream, turns, enabled, hexec⟩
  · rw [hm] at takes
    cases takes with
    | idle awake => exact .inr ⟨awake, rfl⟩

/-- Settles O18: it holds, since exec keeps the invariants, which do not speak of the schedule. -/
theorem stepKeepsInv : Obligations.StepKeepsInv := by
  intro s t inv h
  obtain ⟨i, stream, turns, -, hexec⟩ | ⟨-, rfl⟩ := step_next_exec h
  · exact exec_keeps_inv hexec inv
  · exact inv

/-- Every reachable state meets the invariants. -/
theorem Reachable.inv {s : State} (reachable : Reachable s) : s.Inv := by
  induction reachable with
  | start p stream sched turns wellFormed => exact State.initial_inv stream sched turns wellFormed
  | step s t _ h inv => exact stepKeepsInv s t inv h

/-- The legal duty pairs sum to 50 or are (0, 0) (R35). -/
theorem dutyPairs_sum : ∀ d ∈ dutyPairs, d.1.toNat + d.2.toNat = 50 ∨ (d.1 = 0 ∧ d.2 = 0) := by
  simp [dutyPairs]

/-- Settles O19: it holds, each clause read off from `State.Inv` of a reachable state; the trips are derived (R34). -/
theorem reachableStatesMeetTheInvariants : Obligations.ReachableStatesMeetTheInvariants := by
  intro s reachable
  obtain ⟨-, ⟨notThree, ring, advanced⟩, ⟨debouncing, -⟩, duty, sleepQuiet⟩ := reachable.inv
  refine ⟨⟨s.cur.isLt, s.nxt.isLt⟩, toNat_lt_three notThree, ring, advanced, debouncing, s.tripLost_iff, s.tripStop_iff,
    dutyPairs_sum _ duty, fun asleep src ⟨pending, enabled⟩ => ?_⟩
  have unwanted := s.quiescent_iff.mp (sleepQuiet asleep) src
  simp [State.wanted, pending, enabled] at unwanted

/-- SVC_BTN closes the edge detector (R112). -/
theorem State.armDebounce_enabled_btn (s : State) : s.armDebounce.enabled .btn = false :=
  (setBit_getLsbD s.en _ _ false (by decide)).trans (if_pos rfl)

/-- Settles O21: it holds. Debouncing begins with SVC_BTN, which closes the detector, and ends with SVC_DBT; between them
only H_SETEN can reopen it, which the hypothesis on the host forbids. -/
theorem edgeDetectorStaysClosedWhileDebouncing : Obligations.EdgeDetectorStaysClosedWhileDebouncing := by
  refine ⟨nofun, fun i s t closed h keepsEnable debouncing => ?_⟩
  by_cases svcBtn : i = .svcBtn
  · subst svcBtn
    obtain ⟨-, -, rfl⟩ := execSvcBtn_next h
    exact State.armDebounce_enabled_btn _
  by_cases svcDbt : i = .svcDbt
  · subst svcDbt
    obtain ⟨-, -, rfl⟩ := execSvcDbt_next h
    obtain ⟨-, confirmed⟩ | ⟨idle, kept⟩ := (s.setPend .dbt false).confirmDebounce_cases
    · rw [confirmed] at debouncing
      cases debouncing
    · rw [kept, idle] at debouncing
      cases debouncing
  obtain ⟨-, dbState, -⟩ := writersOfDebounceEnablesAndSleep i s t h
  have before : s.dbState = .debouncing := (dbState svcBtn svcDbt).symm.trans debouncing
  obtain kept | ⟨m, rfl⟩ | rfl | rfl := exec_next_en h
  · simpa only [State.enabled, kept] using closed before
  · obtain ⟨-, -, rfl⟩ := execHSeten_next h
    obtain idle | same := keepsEnable m rfl
    · rw [before] at idle
      cases idle
    · exact same.trans (closed before)
  · exact absurd rfl svcBtn
  · exact absurd rfl svcDbt

end Sys2Proof.Machine
end

section
/-! Illegal words (R83): the words that meet no row of the opcode map, field by field, and the refusal X1 of a word that
fails the check of its format. -/
namespace Sys2Proof

open Machine

/-- A word meets no row exactly when it is illegal (R83, R84). -/
theorem no_row_met_iff_illegal {w : Word} : (∀ r ∈ opcodeMap, r.meets w = false) ↔ ∃ e, decode w = .error e := by
  constructor
  · intro unmet
    cases hd : decode w with
    | error e => exact ⟨e, rfl⟩
    | ok i =>
      obtain ⟨r, hrow, met⟩ := meets_row_of_decode hd
      simp [unmet r (Instr.row?_spec hrow).1] at met
  · rintro ⟨e, hd⟩
    simpa using List.filter_eq_nil_iff.mp (no_row_met_of_illegal hd)

theorem checkZeros_isError_iff {w zeros : Word} {i : Instr} :
    (∃ e, checkZeros w zeros i = .error e) ↔ w &&& zeros ≠ 0 := by
  unfold checkZeros
  split <;> simp_all

/-- The reserved bits of a format, as a field of the word (R12). -/
theorem and_eq_zero_iff_field {w zeros : Word} (start len : Nat)
    (hfield : ∀ j < 16, zeros.getLsbD j = (decide (start ≤ j) && decide (j < start + len))) :
    w &&& zeros = 0 ↔ w.extractLsb' start len = 0 := by
  constructor
  · intro h
    refine BitVec.eq_of_getLsbD_eq fun j hj => ?_
    by_cases hlt : start + j < 16
    · have bit := congrArg (BitVec.getLsbD · (start + j)) h
      simpa [hfield _ hlt, hj] using bit
    · simp [hj, BitVec.getLsbD_of_ge w (start + j) (by omega)]
  · intro h
    refine BitVec.eq_of_getLsbD_eq fun j hj => ?_
    rw [BitVec.getLsbD_and, hfield j hj]
    by_cases inField : start ≤ j ∧ j < start + len
    · have inLen : j - start < len := by omega
      have bit : (w.extractLsb' start len).getLsbD (j - start) = false := by simp [h]
      rw [BitVec.getLsbD_extractLsb', Nat.add_sub_cancel' inField.1] at bit
      have clear : w.getLsbD j = false := by simpa [inLen] using bit
      simp [clear]
    · have outside : (decide (start ≤ j) && decide (j < start + len)) = false := by simpa using inField
      simp [outside]

/-- A format with one reserved field refuses the words in which the field is not 0 (R83). -/
theorem checkZeros_isError_iff_field {w zeros : Word} {i : Instr} (start len : Nat)
    (hfield : ∀ j < 16, zeros.getLsbD j = (decide (start ≤ j) && decide (j < start + len))) :
    (∃ e, checkZeros w zeros i = .error e) ↔ w.extractLsb' start len ≠ 0 :=
  checkZeros_isError_iff.trans (and_eq_zero_iff_field start len hfield).not

/-- ENC has two reserved fields, on both sides of its encoder bit (R73, R83). -/
theorem encFields_isError_iff {w : Word} {i : Instr} :
    (∃ e, checkZeros w 0x0EFC i = .error e) ↔ w.extractLsb' 9 3 ≠ 0 ∨ w.extractLsb' 2 6 ≠ 0 := by
  have both : w &&& 0x0EFC = (w &&& 0x0E00) ||| (w &&& 0x00FC) := by
    rw [← BitVec.and_or_distrib_left]
    rfl
  rw [checkZeros_isError_iff, both]
  refine (not_congr BitVec.or_eq_zero_iff).trans (not_and_or.trans ?_)
  exact or_congr (and_eq_zero_iff_field 9 3 (by decide)).not (and_eq_zero_iff_field 2 6 (by decide)).not

/-- A format without an operand refuses the words with any other bit below OP (R77, R78, R83). -/
theorem fixedFields_isError_iff {w : Word} {i : Instr} :
    (∃ e, checkZeros w 0x0FFF i = .error e) ↔ w.extractLsb' 0 12 ≠ 0 :=
  checkZeros_isError_iff_field 0 12 (by decide)

/-- E-TICK's illegal words (R76, R83). -/
theorem decodeTick_isError_iff {w : Word} :
    (∃ e, decodeTick w = .error e) ↔ 4 ≤ (w.extractLsb' 0 3).toNat ∨ w.extractLsb' 3 9 ≠ 0 := by
  rw [Ne, ← and_eq_zero_iff_field (w := w) (zeros := 0x0FF8) 3 9 (by decide)]
  unfold decodeTick
  split
  case h_5 ne0 ne1 ne2 ne3 =>
    refine iff_of_true ⟨_, rfl⟩ (.inl ?_)
    have above : _ ≠ 0 ∧ _ ≠ 1 ∧ _ ≠ 2 ∧ _ ≠ 3 := ⟨ne0, ne1, ne2, ne3⟩
    omega
  all_goals
    next ht =>
    rw [ht, checkZeros_isError_iff]
    simp

/-- The values of OP: the four reserved ones and those of the formats (R71, R83). -/
theorem op_reserved_or_listed (op : BitVec 4) :
    (op = 0b0000 ∨ op = 0b0101 ∨ op = 0b0110 ∨ op = 0b1111) ∨
      op.toNat ∈ [0x1, 0x2, 0x3, 0x4, 0x7, 0x8, 0x9, 0xA, 0xB, 0xC, 0xD, 0xE] := by
  revert op
  decide

/-- Settles O4: it holds. A word meets no row exactly when it is illegal, and the formats are gone through one by one:
each refuses exactly its reserved fields. An illegal word is refused X1 by `refusedX1_of_error`. -/
theorem unmatchedWordsAreTheListedOnesAndRefusedX1 : Obligations.UnmatchedWordsAreTheListedOnesAndRefusedX1 := by
  intro w
  refine ⟨no_row_met_iff_illegal.trans ?listed, fun unmet => ?refused⟩
  case refused =>
    obtain ⟨e, hd⟩ := no_row_met_iff_illegal.mp unmet
    exact ⟨⟨e, hd⟩, refusedX1_of_error hd⟩
  have op_eq {op : BitVec 4} (hop : (w.extractLsb' 12 4).toNat = op.toNat) : w.extractLsb' 12 4 = op :=
    BitVec.eq_of_toNat_eq hop
  unfold decode
  split
  case h_1 hop =>
    rw [encFields_isError_iff, op_eq (op := 0x1) hop]
    simp
  case h_2 hop =>
    rw [checkZeros_isError_iff_field 1 11 (by decide), op_eq (op := 0x2) hop]
    simp
  case h_3 hop =>
    rw [op_eq (op := 0x3) hop]
    simp
  case h_4 hop =>
    rw [decodeTick_isError_iff, op_eq (op := 0x4) hop]
    simp
  case h_5 hop =>
    rw [fixedFields_isError_iff, op_eq (op := 0x7) hop]
    simp
  case h_6 hop =>
    rw [fixedFields_isError_iff, op_eq (op := 0x8) hop]
    simp
  case h_7 hop =>
    rw [fixedFields_isError_iff, op_eq (op := 0x9) hop]
    simp
  case h_8 hop =>
    rw [fixedFields_isError_iff, op_eq (op := 0xA) hop]
    simp
  case h_9 hop =>
    rw [fixedFields_isError_iff, op_eq (op := 0xB) hop]
    simp
  case h_10 hop =>
    rw [fixedFields_isError_iff, op_eq (op := 0xC) hop]
    simp
  case h_11 hop =>
    rw [checkZeros_isError_iff_field 5 7 (by decide), op_eq (op := 0xD) hop]
    simp
  case h_12 hop =>
    rw [checkZeros_isError_iff_field 7 5 (by decide), op_eq (op := 0xE) hop]
    simp
  case h_13 =>
    exact iff_of_true ⟨_, rfl⟩ (.inl ((op_reserved_or_listed _).resolve_right (by simp_all)))

end Sys2Proof
end

section
/-! The operations one by one: the word of each and its illegal neighbours, the answer of each shape of step, and from
them the full next state of every environment and host word. -/
namespace Sys2Proof.Machine

open Sys2Proof.Config

/-! The refusal X1 of a word that fails the check of its format (R83). -/

/-- A word of a format with a reserved bit set is refused X1. -/
theorem refusedX1_of_zeros {w zeros : Word} {i : Instr} (hd : decode w = checkZeros w zeros i)
    (reserved : w &&& zeros ≠ 0) : RefusedX1 w := by
  obtain ⟨e, illegal⟩ := checkZeros_isError_iff.mpr reserved
  exact refusedX1_of_error (hd.trans illegal)

/-- A word of a format that differs from the format's row under its mask is refused X1. -/
theorem refusedX1_of_mask {w zeros : Word} {i : Instr} (op : BitVec 4) (hop : w.extractLsb' 12 4 = op)
    (hd : decode w = checkZeros w zeros i) (unmet : w &&& (0xF000 ||| zeros) ≠ op ++ 0#12) : RefusedX1 w :=
  refusedX1_of_zeros hd fun zero => unmet (and_mask_of_op op (congrArg BitVec.toNat hop) zero)

/-- A format without an operand has one word; every other word of its OP is refused X1. -/
theorem refusedX1_of_fixed {w : Word} {i : Instr} (op : BitVec 4) (hop : w.extractLsb' 12 4 = op)
    (hd : decode w = checkZeros w 0x0FFF i) (other : w ≠ op ++ 0#12) : RefusedX1 w :=
  refusedX1_of_mask op hop hd fun met => other (BitVec.and_allOnes.symm.trans met)

/-- E-TICK has one word for each timer; every other word of its OP and T is refused X1. -/
theorem refusedX1_of_timer {w : Word} {i : Instr} (timer : BitVec 3) (hop : w.extractLsb' 12 4 = 0x4)
    (ht : w.extractLsb' 0 3 = timer) (hd : decodeTick w = checkZeros w 0x0FF8 i)
    (other : w ≠ (0x4#4 ++ 0#12) ||| (0#13 ++ timer)) : RefusedX1 w := by
  have format : decode w = checkZeros w 0x0FF8 i := by
    rw [decode, hop]
    exact hd
  refine refusedX1_of_zeros format fun zero => other ?_
  exact BitVec.and_allOnes.symm.trans
    (and_mask_of_timer 0x4 timer (congrArg BitVec.toNat hop) (congrArg BitVec.toNat ht) zero)

/-! The answers of each shape of step. -/

/-- The end of a step, with the wake written out (R165). -/
theorem endStep_eq (s u : State) :
    endStep s u = .next (if s.sleeping = true ∧ u.quiescent = false then { u with sleeping := false } else u) := by
  unfold endStep State.wake
  cases s.sleeping <;> cases u.quiescent <;> simp_all

/-- An enabled host word ends with its effect, the block being awake (R150, R165). -/
theorem hostStep_effect {s : State} (enabled : s.hostEnabled = true) (effect : State → State) :
    hostStep s (fun u => endStep u (effect u)) = .next (effect s) := by
  obtain ⟨runs, awake, -⟩ := hostStep_enabled (fun u => endStep u (effect u)) enabled
  exact runs.trans (endStep_awake _ awake)

theorem exec_hGoedge_enabled {s : State} (enabled : s.hostEnabled = true) : exec .hGoedge s = .next s.goEdge :=
  hostStep_effect enabled State.goEdge

theorem exec_hRecover_enabled {s : State} (enabled : s.hostEnabled = true) :
    exec .hRecover s = .next { s with go := false, goPrev := false, lost := 0, stop := 0 } :=
  hostStep_effect enabled fun u => { u with go := false, goPrev := false, lost := 0, stop := 0 }

theorem exec_hSleep_enabled {s : State} (enabled : s.hostEnabled = true) :
    exec .hSleep s = .next { s.emit .sleep with sleeping := true } :=
  hostStep_effect enabled fun u => { u.emit .sleep with sleeping := true }

theorem exec_hRearm_enabled {s : State} (enabled : s.hostEnabled = true) :
    exec .hRearm s = .next (({ s with adf := false }.setPend .adc false).startConversion) :=
  hostStep_effect enabled fun u => (State.setPend { u with adf := false } .adc false).startConversion

theorem exec_hSeten_enabled {s : State} (m : BitVec 7) (enabled : s.hostEnabled = true) :
    exec (.hSeten m) s = .next (s.writeEn m) :=
  hostStep_effect enabled (State.writeEn · m)

/-- A host word that is not enabled holds (R150, R161). -/
theorem exec_host_held {i : Instr} {s : State} (host : i.role = .host) (held : s.hostEnabled = false) :
    exec i s = .fault .held :=
  exec_eq_fault_iff.mpr ⟨rfl, by simp [State.stepEnabled, host, held]⟩

/-- Awake, a timer word ends with its latch set (R120, R132, R133). -/
theorem clockedStep_effect {s : State} (awake : s.sleeping = false) (effect : State → State) :
    clockedStep s (fun u => endStep u (effect u)) = .next (effect s) :=
  (clockedStep_awake _ awake).trans (endStep_awake _ awake)

/-! QED. -/

/-- Settles O29: it holds; ENC has eight words, and its effect is the write of the lines. -/
theorem encSetsTheLinesOfItsEncoder : Obligations.EncSetsTheLinesOfItsEncoder := by
  refine ⟨by decide, fun w hop unmet => ?_, fun a b s => ⟨endStep_eq s _, endStep_eq s _⟩⟩
  exact refusedX1_of_mask 0x1 hop (by rw [decode, hop]; rfl) unmet

/-! DEB. -/

/-- The edge detector, its condition written out (R109). -/
theorem State.buttonLevel_eq (s : State) (l : Bool) :
    s.buttonLevel l = if s.enabled .btn = true ∧ s.pend .btn = false ∧ l ≠ s.btnLine then
      { s with btnLine := l, dbDir := l, latch := { s.latch with btn := true } } else { s with btnLine := l } := by
  obtain ⟨armed, clear, edge, latched⟩ | ⟨notEdge, lineOnly⟩ := s.buttonLevel_cases l
  · exact latched.trans (if_pos ⟨armed, clear, edge⟩).symm
  · exact lineOnly.trans (if_neg notEdge).symm

/-- Settles O40: it holds; BTN has two words, and the edge detector latches under exactly the condition of R109. -/
theorem btnLatchesAnEdgeOnlyWhenArmed : Obligations.BtnLatchesAnEdgeOnlyWhenArmed := by
  refine ⟨by decide, fun w hop unmet => ?_, fun l s => ?_⟩
  · exact refusedX1_of_mask 0x2 hop (by rw [decode, hop]; rfl) unmet
  · rw [← State.buttonLevel_eq]
    exact endStep_eq s _

/-- Asleep, a timer or ADC word is refused X5 (R159). -/
theorem exec_clocked_asleep {i : Instr} {s : State} (asleep : s.sleeping = true)
    (clocked : i = .tickObs ∨ i = .tickCtrl ∨ i = .tickDisp ∨ i = .dbtFire ∨ ∃ v, i = .adc v) :
    exec i s = .refused .clockHalted :=
  (execRefusesExactlyAsTabled i s _).mpr (.inl ⟨rfl, asleep, clocked⟩)

/-- DBT_FIRE awake: refused X4 unless the one-shot runs (R110). -/
theorem exec_dbtFire_awake {s : State} (awake : s.sleeping = false) :
    exec .dbtFire s =
      if s.dbtArmed then .next ({ s with dbtArmed := false }.setPend .dbt true) else .refused .notArmed := by
  change execDbtFire s = _
  rw [execDbtFire, clockedStep_awake _ awake, endStep_awake _ awake]

/-- Settles O41: it holds; asleep the halted clock refuses the word, and awake DBT_ARMED decides. -/
theorem dbtFireNeedsAnArmedOneShot : Obligations.DbtFireNeedsAnArmedOneShot := by
  refine ⟨rfl, fun w hop ht other => ?_, fun s => ⟨fun asleep => exec_clocked_asleep asleep (by simp),
    fun awake idle => ?_, fun awake armed => ?_⟩⟩
  · exact refusedX1_of_timer 3 hop ht (by rw [decodeTick, ht]; rfl) other
  · rw [exec_dbtFire_awake awake, idle]
    rfl
  · rw [exec_dbtFire_awake awake, armed]
    rfl

/-- Settles O44: it holds; an enabled H_GOEDGE is its pseudocode, in which GO and GO_PREV decide. -/
theorem goedgeActsOncePerEdge : Obligations.GoedgeActsOncePerEdge := by
  refine ⟨rfl, fun w hop other => refusedX1_of_fixed 0x9 hop (by rw [decode, hop]; rfl) other,
    fun s => ⟨exec_host_held rfl, fun enabled same => ?_, fun enabled go prev => ?_, fun enabled go prev => ?_⟩⟩
  · simp [exec_hGoedge_enabled enabled, State.goEdge, same]
  · simp [exec_hGoedge_enabled enabled, State.goEdge, State.emit, go, prev]
  · simp [exec_hGoedge_enabled enabled, State.goEdge, State.emit, go, prev]

/-! FLT and DSP. -/

/-- The periodic timers of E-TICK (R76). -/
theorem timer_of_toNat_lt_three {timer : BitVec 3} (h : timer.toNat < 3) : timer = 0 ∨ timer = 1 ∨ timer = 2 := by
  revert timer
  decide

theorem exec_tickCtrl_awake {s : State} (awake : s.sleeping = false) :
    exec .tickCtrl s = .next (s.setPend .ctrl true) := clockedStep_effect awake (State.setPend · .ctrl true)

theorem exec_tickObs_awake {s : State} (awake : s.sleeping = false) :
    exec .tickObs s = .next (s.setPend .obs true) := clockedStep_effect awake (State.setPend · .obs true)

theorem exec_tickDisp_awake {s : State} (awake : s.sleeping = false) :
    exec .tickDisp s = .next (s.setPend .disp true) := clockedStep_effect awake (State.setPend · .disp true)

/-- A tick whose latch is set already changes nothing (R120, R132, R133). -/
theorem tick_merges {i : Instr} (tick : i = .tickCtrl ∨ i = .tickObs ∨ i = .tickDisp) {s t : State}
    (h : exec i s = .next t) : exec i t = .next t := by
  obtain rfl | rfl | rfl := tick
  · obtain ⟨awake, rfl⟩ := execTickCtrl_next h
    exact exec_tickCtrl_awake awake
  · obtain ⟨awake, rfl⟩ := execTickObs_next h
    exact exec_tickObs_awake awake
  · obtain ⟨awake, rfl⟩ := execTickDisp_next h
    exact exec_tickDisp_awake awake

/-- Settles O46: it holds; each tick is a clocked word with one latch as its effect. -/
theorem ticksSetTheirPendingBitAndMerge : Obligations.TicksSetTheirPendingBitAndMerge := by
  refine ⟨⟨rfl, rfl, rfl⟩, fun w hop ht notObs notCtrl notDisp => ?_, fun s =>
    ⟨fun asleep => ?asleep, fun awake => ?awake, fun i tick t => tick_merges tick⟩⟩
  · obtain ht | ht | ht := timer_of_toNat_lt_three ht
    · exact refusedX1_of_timer 0 hop ht (by rw [decodeTick, ht]; rfl) notObs
    · exact refusedX1_of_timer 1 hop ht (by rw [decodeTick, ht]; rfl) notCtrl
    · exact refusedX1_of_timer 2 hop ht (by rw [decodeTick, ht]; rfl) notDisp
  · exact ⟨exec_clocked_asleep asleep (by simp), exec_clocked_asleep asleep (by simp), exec_clocked_asleep asleep (by simp)⟩
  · exact ⟨exec_tickCtrl_awake awake, exec_tickObs_awake awake, exec_tickDisp_awake awake⟩

/-- Settles O48: it holds; H_RECOVER is one write of four elements, whatever the counters. -/
theorem recoverClearsGoAndBothCounters : Obligations.RecoverClearsGoAndBothCounters :=
  ⟨rfl, fun w hop other => refusedX1_of_fixed 0xA hop (by rw [decode, hop]; rfl) other,
    fun _ => ⟨exec_host_held rfl, exec_hRecover_enabled⟩⟩

/-- Settles O51: it holds. -/
theorem syncWaitsForQuiescenceAndDoesNothing : Obligations.SyncWaitsForQuiescenceAndDoesNothing := by
  refine ⟨rfl, fun w hop other => refusedX1_of_fixed 0x7 hop (by rw [decode, hop]; rfl) other,
    fun s => ⟨fun quiet => ?_, fun busy => exec_eq_fault_iff.mpr ⟨rfl, busy⟩⟩⟩
  change execSync s = _
  simp [execSync, quiet, endStep_eq]

/-- Settles O55: it holds; the write of EN keeps or clears PEND[BTN] by whether bit 1 changes. -/
theorem setenReplacesTheEnables : Obligations.SetenReplacesTheEnables := by
  refine ⟨encode_hSeten, fun w hop reserved => ?_, fun s m => ⟨exec_host_held rfl, fun enabled same => ?_,
    fun enabled changed => ?_⟩⟩
  · refine refusedX1_of_zeros (zeros := 0x0F80) (i := .hSeten (w.extractLsb' 0 7)) (by rw [decode, hop]; rfl) ?_
    exact (and_eq_zero_iff_field 7 5 (by decide)).not.mpr reserved
  · have kept : (s.enabled .btn == m.getLsbD (sourceId .btn)) = true := beq_iff_eq.mpr same
    simp [exec_hSeten_enabled m enabled, State.writeEn_eq, kept]
  · have cleared : (s.enabled .btn == m.getLsbD (sourceId .btn)) = false := beq_false_of_ne changed
    simp [exec_hSeten_enabled m enabled, State.writeEn_eq, cleared]

/-- An enabled H_READ of a defined address emits its value (R137). -/
theorem exec_hRead_enabled {s : State} {a : RegAddr} {d : Word} (enabled : s.hostEnabled = true)
    (value : s.regRead a = some d) : exec (.hRead a) s = .next (s.emit (.read a d)) := by
  obtain ⟨-, awake, -⟩ := hostStep_enabled (fun u => endStep u u) enabled
  change execHRead a s = _
  rw [execHRead, hostStep, if_pos enabled, value]
  exact endStep_awake _ awake

/-- Settles O52: it holds; RegRead does not read the log, so a second read emits the same value. -/
theorem readEmitsTheRegisterAndChangesNothing : Obligations.ReadEmitsTheRegisterAndChangesNothing := by
  refine ⟨encode_hRead, fun w hop reserved => ?_, fun s a => ⟨exec_host_held rfl, fun enabled defined => ?_,
    fun enabled reserved => ?_⟩⟩
  · refine refusedX1_of_zeros (zeros := 0x0FE0) (i := .hRead (w.extractLsb' 0 5)) (by rw [decode, hop]; rfl) ?_
    exact (and_eq_zero_iff_field 5 7 (by decide)).not.mpr reserved
  · obtain ⟨d, value⟩ := Option.ne_none_iff_exists'.mp ((s.regRead_eq_none_iff a).not.mpr (by omega))
    refine ⟨d, _, value, exec_hRead_enabled enabled value, rfl, ?_⟩
    have again := exec_hRead_enabled (s := s.emit (.read a d)) enabled value
    simpa [State.emit] using again
  · obtain ⟨awake, quiet⟩ := s.hostEnabled_iff.mp enabled
    exact (execRefusesExactlyAsTabled _ s _).mpr (.inr (.inr (.inr ⟨rfl, awake, quiet, a, rfl, reserved⟩)))

/-- Settles O54: it holds; asleep nothing is selected and no host step is enabled, the clocked words are refused, and
ENC and BTN always answer. -/
theorem sleepHaltsServicesHostAndTimers : Obligations.SleepHaltsServicesHostAndTimers := by
  refine ⟨rfl, fun w hop other => refusedX1_of_fixed 0xB hop (by rw [decode, hop]; rfl) other, fun s =>
    ⟨exec_host_held rfl, exec_hSleep_enabled, fun asleep i =>
      ⟨fun host => ?host, fun src service => ?service, fun clocked => ?clocked, ?async⟩⟩⟩
  case host => exact exec_host_held host (by simp [State.hostEnabled, asleep])
  case service =>
    have unselected := s.nextService_eq_none.mpr (.inl asleep)
    exact exec_eq_fault_iff.mpr ⟨rfl, by simp [State.stepEnabled, service, unselected]⟩
  case clocked => exact exec_clocked_asleep asleep clocked
  case async =>
    rintro (⟨e, a, b, rfl⟩ | ⟨l, rfl⟩)
    · exact ⟨_, rfl⟩
    · exact ⟨_, rfl⟩

/-! SEQ. -/

/-- Settles O37: it holds; what H_REARM clears does not move NXT. -/
theorem rearmStartsAFreshConversion : Obligations.RearmStartsAFreshConversion :=
  ⟨rfl, fun w hop other => refusedX1_of_fixed 0xC hop (by rw [decode, hop]; rfl) other,
    fun _ => ⟨exec_host_held rfl, exec_hRearm_enabled⟩⟩

/-- A reading that does not reach READINGS_MAX is only counted (R101). -/
theorem State.seqCount_of_rc_ne_one {s : State} (v : BitVec 12) (notSecond : s.rc ≠ 1) :
    s.seqCount v = { s with rc := s.rc + 1 } := by
  obtain ⟨second, -⟩ | ⟨-, counted⟩ := s.seqCount_cases v
  · exact absurd second notSecond
  · exact counted

/-- H_SAMPLE's pseudocode on a sample after the pre-advance: the adoption, with a publish at HEAD, and the settling
reading (R99 to R101). -/
theorem State.runSequencer_adopts {s : State} (flagged : s.adf = true) (advanced : s.nxt ≠ s.cur) :
    s.runSequencer = { s with
      adf := false, cur := s.nxt, rc := 1
      lp := if s.nxt = s.params.head then s.acc else s.lp
      acc := if s.nxt = s.params.head then 0 else s.acc } := by
  obtain ⟨unflagged, -⟩ | ⟨-, processed⟩ := s.runSequencer_cases
  · simp [flagged] at unflagged
  rw [processed]
  obtain ⟨same, -⟩ | ⟨-, head, published⟩ | ⟨-, notHead, adopted⟩ := { s with adf := false }.seqAdopt_cases
  · exact absurd same advanced
  · rw [published, State.seqCount_of_rc_ne_one, if_pos head, if_pos head]
    · rfl
    · exact nofun
  · rw [adopted, State.seqCount_of_rc_ne_one, if_neg notHead, if_neg notHead]
    · rfl
    · exact nofun

/-- H_SAMPLE's pseudocode on the first flagged sample of the loaded sensor: the settling reading (R101). -/
theorem State.runSequencer_first {s : State} (flagged : s.adf = true) (same : s.nxt = s.cur) (first : s.rc = 0) :
    s.runSequencer = { s with adf := false, rc := 1 } := by
  obtain ⟨unflagged, -⟩ | ⟨-, processed⟩ := s.runSequencer_cases
  · simp [flagged] at unflagged
  have kept : { s with adf := false }.seqAdopt = { s with adf := false } := State.seqAdopt_of_nxt_eq_cur same
  rw [processed, kept, State.seqCount_of_rc_ne_one _ (by simp [first])]
  simp [first]

/-- Settles O35: it holds; without a flagged sample nothing, and with one the adoption or the settling reading. -/
theorem sampleAdoptsPublishesAndSettles : Obligations.SampleAdoptsPublishesAndSettles := by
  refine ⟨rfl, fun w hop other => refusedX1_of_fixed 0x8 hop (by rw [decode, hop]; rfl) other, fun s =>
    ⟨exec_host_held rfl, fun enabled unflagged => ?_, fun enabled flagged advanced => ?_,
      fun enabled flagged same first => ?_⟩⟩
  · obtain ⟨-, kept⟩ | ⟨flagged, -⟩ := s.runSequencer_cases
    · rw [exec_hSample_enabled enabled, kept]
    · simp [unflagged] at flagged
  · rw [exec_hSample_enabled enabled, State.runSequencer_adopts flagged advanced]
  · rw [exec_hSample_enabled enabled, State.runSequencer_first flagged same first]

/-- The reading count leaves LP (R65, R101). -/
theorem State.seqCount_lp (s : State) (v : BitVec 12) : (s.seqCount v).lp = s.lp := by
  rw [State.seqCount_frame]

/-- Settles O38: it holds; only H_SAMPLE writes LP, and there only the adoption of HEAD, which is followed by the first
reading of the new round. -/
theorem linePatternChangesOnlyByAPublishAtTheHead : Obligations.LinePatternChangesOnlyByAPublishAtTheHead := by
  intro i s t h changed
  have sample : i = .hSample := by
    by_contra notSample
    obtain ⟨-, -, -, -, lp, -⟩ := onlySampleWritesTheSequencer i s t h notSample
    exact changed lp
  subst sample
  obtain ⟨-, -, rfl⟩ := execHSample_next h
  obtain ⟨-, kept⟩ | ⟨flagged, processed⟩ := s.runSequencer_cases
  · exact absurd (congrArg State.lp kept) changed
  by_cases same : s.nxt = s.cur
  · rw [processed, State.seqCount_lp, State.seqAdopt_of_nxt_eq_cur (s := { s with adf := false }) same] at changed
    exact absurd rfl changed
  · rw [State.runSequencer_adopts flagged same] at changed ⊢
    by_cases head : s.nxt = s.params.head
    · exact ⟨rfl, if_pos head, if_pos head, head, head ▸ Ne.symm same, rfl⟩
    · exact absurd (if_neg head) changed

end Sys2Proof.Machine
end

section
/-! Arbitration, the drain and sleep (R148 to R158, R164 to R166, R185), and the register map (R57). -/
namespace Sys2Proof.Machine

open Sys2Proof.Config

/-! The order of the sources. -/

/-- What a search finds in a sorted list has the least key of all that it could find. -/
theorem find?_minimal {α : Type} {l : List α} {p : α → Bool} {key : α → Nat} {a : α}
    (sorted : l.Pairwise fun x y => key x ≤ key y) (found : l.find? p = some a) : ∀ b ∈ l, p b = true → key a ≤ key b := by
  induction l with
  | nil => simp
  | cons x xs ih =>
    obtain ⟨least, sorted⟩ := List.pairwise_cons.mp sorted
    intro b hb pb
    by_cases px : p x = true
    · obtain rfl : x = a := by simpa [px] using found
      obtain rfl | hb := List.mem_cons.mp hb
      · exact le_rfl
      · exact least b hb
    · obtain rfl | hb := List.mem_cons.mp hb
      · exact absurd pb px
      · exact ih sorted (by simpa [px] using found) b hb pb

theorem mem_serviceOrder (src : Source) : src ∈ serviceOrder := by cases src <;> decide

/-- The service order is that of the ids (R149, R157). -/
theorem serviceOrder_sorted : serviceOrder.Pairwise fun src src' => sourceId src ≤ sourceId src' := by decide

/-- The selected source is the serviceable one with the least id (R151, R157). -/
theorem State.nextService_eq_some_iff {s : State} {src : Source} :
    s.nextService = some src ↔
      s.serviceable src = true ∧ ∀ src', s.serviceable src' = true → sourceId src ≤ sourceId src' := by
  have least {src : Source} (selected : s.nextService = some src) (src' : Source) :
      s.serviceable src' = true → sourceId src ≤ sourceId src' :=
    find?_minimal serviceOrder_sorted selected src' (mem_serviceOrder src')
  refine ⟨fun selected => ⟨State.nextService_serviceable selected, least selected⟩, fun ⟨serviceable, lowest⟩ => ?_⟩
  cases selected : s.nextService with
  | none => exact absurd serviceable (List.find?_eq_none.mp selected src (mem_serviceOrder src))
  | some first =>
    have ids := le_antisymm (least selected src serviceable) (lowest first (State.nextService_serviceable selected))
    rw [sourceId_injective ids]

/-- The HIGH sources have the lower ids (R149, R152). -/
theorem sourceId_lt_of_level {hi lo : Source} (high : sourceLevel hi = .high) (low : sourceLevel lo = .low) :
    sourceId hi < sourceId lo := by
  cases hi <;> cases lo <;> simp_all [sourceLevel, sourceId]

theorem State.serviceable_iff {s : State} {src : Source} :
    s.serviceable src = true ↔ s.pend src = true ∧ s.enabled src = true ∧ s.sleeping = false := by
  simp [State.serviceable, State.wanted, and_assoc]

/-- Settles O56: it holds, by the least id of the selected source. -/
theorem selectedSourceHasTheLowestId : Obligations.SelectedSourceHasTheLowestId := by
  refine ⟨fun s src => ?_, fun s hi lo high low serviceable => ?_⟩
  · rw [State.nextService_eq_some_iff, State.serviceable_iff]
    refine and_congr_right fun ⟨_, _, awake⟩ => forall_congr' fun src' => ?_
    simp [State.serviceable_iff, awake]
  · refine exec_eq_fault_iff.mpr ⟨rfl, ?_⟩
    rw [State.stepEnabled_service_eq]
    refine beq_false_of_ne fun selected => ?_
    obtain ⟨-, lowest⟩ := State.nextService_eq_some_iff.mp selected
    exact (sourceId_lt_of_level high low).not_ge (lowest hi serviceable)

/-! The drain. -/

/-- Clearing a latch makes no source pending, and not the latched one (R151). -/
theorem State.setPend_false_wanted {s : State} {src src' : Source} (latched : src ≠ .qed)
    (want : (s.setPend src false).wanted src' = true) : s.wanted src' = true ∧ src' ≠ src := by
  cases src <;> cases src' <;> simp_all [State.wanted, State.pend, State.enabled, State.qedPend]

/-- SVC_BTN's pseudocode leaves the other enables (R112). -/
theorem State.armDebounce_enabled_of_ne (s : State) {src : Source} (other : src ≠ .btn) :
    s.armDebounce.enabled src = s.enabled src :=
  setBit_btn_getLsbD_of_ne s.en false other

/-- SVC_BTN's pseudocode makes no source pending or enabled (R112). -/
theorem State.armDebounce_wanted {s : State} {src : Source} (want : s.armDebounce.wanted src = true) :
    s.wanted src = true := by
  by_cases btn : src = .btn
  · subst btn
    simp [State.wanted, State.armDebounce_enabled_btn] at want
  · rw [State.wanted, s.armDebounce_enabled_of_ne btn] at want
    cases src <;> simp_all [State.wanted, State.pend, State.armDebounce, State.writeEnBtn_eq, State.qedPend]

/-- SVC_DBT's pseudocode enables BTN only with PEND[BTN] clear, and makes no other source pending or enabled (R111,
R114). -/
theorem State.confirmDebounce_wanted {s : State} {src : Source} (want : s.confirmDebounce.wanted src = true) :
    s.wanted src = true := by
  obtain ⟨-, confirmed⟩ | ⟨-, kept⟩ := s.confirmDebounce_cases
  case inr => rwa [kept] at want
  rw [confirmed, State.writeEnBtn_eq] at want
  by_cases btn : src = .btn
  · subst btn
    simp_all [State.wanted, State.pend, State.enabled]
  · have kept := setBit_btn_getLsbD_of_ne s.en true btn
    cases src <;> simp_all [State.wanted, State.pend, State.enabled, State.qedPend]

/-- SVC_QED's pseudocode clears PEND[QED] and nothing else of PEND (R89). -/
theorem State.decodeEdges_wanted {s : State} {src : Source} (want : s.decodeEdges.wanted src = true) :
    s.wanted src = true ∧ src ≠ .qed := by
  cases src with
  | qed => simp [State.wanted, s.decodeEdges_pend_qed] at want
  | disp | btn | adc | dbt | ctrl | obs => exact ⟨want, nofun⟩

/-- A dispatched service leaves only sources pending and enabled that were so before, and not its own (R151, R153). -/
theorem service_wanted {src src' : Source} {s t : State} (h : exec src.service s = .next t)
    (want : t.wanted src' = true) : s.wanted src' = true ∧ src' ≠ src := by
  cases src with
  | disp =>
    obtain ⟨-, -, rfl⟩ := execSvcDisp_next h
    exact State.setPend_false_wanted nofun want
  | btn =>
    obtain ⟨-, -, rfl⟩ := execSvcBtn_next h
    exact State.setPend_false_wanted nofun (State.armDebounce_wanted want)
  | adc =>
    obtain ⟨-, -, rfl⟩ := execSvcAdc_next h
    exact State.setPend_false_wanted nofun want
  | qed =>
    obtain ⟨-, -, rfl⟩ := execSvcQed_next h
    exact State.decodeEdges_wanted want
  | dbt =>
    obtain ⟨-, -, rfl⟩ := execSvcDbt_next h
    exact State.setPend_false_wanted nofun (State.confirmDebounce_wanted want)
  | ctrl =>
    obtain ⟨-, -, rfl⟩ := execSvcCtrl_next h
    rw [State.controlPeriod_frame] at want
    exact State.setPend_false_wanted nofun want
  | obs =>
    obtain ⟨-, -, rfl⟩ := execSvcObs_next h
    exact State.setPend_false_wanted nofun want

/-- The selected service is dispatched (R151). -/
theorem exec_service_selected {s : State} {src : Source} (selected : s.nextService = some src) :
    ∃ t, exec src.service s = .next t := by
  cases src with
  | disp => exact ⟨_, exec_svcDisp_selected selected⟩
  | btn => exact ⟨_, exec_svcBtn_selected selected⟩
  | adc => exact ⟨_, exec_svcAdc_selected selected⟩
  | qed => exact ⟨_, exec_svcQed_selected selected⟩
  | dbt => exact ⟨_, exec_svcDbt_selected selected⟩
  | ctrl => exact ⟨_, exec_svcCtrl_selected selected⟩
  | obs => exact ⟨_, exec_svcObs_selected selected⟩

/-- Awake with no word left, a run's step is the selected service, or nothing (R141, R158). -/
theorem step_drain {s : State} (awake : s.sleeping = false) (empty : s.stream = []) :
    (∃ src turns, s.nextService = some src ∧ step s = exec src.service { s with turns := turns }) ∨
      (s.nextService = none ∧ step s = .next s) := by
  have takes := s.nextMove_takes
  unfold step
  cases hm : s.nextMove with
  | run i u =>
    rw [hm] at takes
    cases takes with
    | service src turns selected => exact .inl ⟨src, turns, selected, rfl⟩
    | word front back w i turns hs => simp [empty] at hs
  | refuse r =>
    rw [hm] at takes
    cases takes with
    | illegalWord notEmpty => exact absurd empty notEmpty
    | hostWhileAsleep _ _ _ _ asleep => simp [awake] at asleep
  | idle =>
    rw [hm] at takes
    cases takes with
    | idle _ _ unselected => exact .inr ⟨unselected, rfl⟩
  | stuck =>
    rw [hm] at takes
    cases takes with
    | stuck only =>
      obtain ⟨asleep, -⟩ := only fun asleep => by simp [awake] at asleep
      simp [awake] at asleep

theorem run_succ {s u : State} (k : Nat) (h : step s = .next u) :
    Sys2Proof.core.run (k + 1) s = Sys2Proof.core.run k u := by
  have h' : Sys2Proof.core.step s = .next u := h
  simp only [Host.Core.run, h']

/-- A dispatched service leaves the block awake and the stream as it is (R165). -/
theorem service_frame {src : Source} {s t : State} (h : exec src.service s = .next t) :
    t.sleeping = s.sleeping ∧ t.stream = s.stream := by
  obtain ⟨-, -, stream, -⟩ := logOnlyGrowsAndParametersStay _ s t h
  refine ⟨exec_next_same (x := .sleeping) h ?_, stream⟩
  cases src <;> simp [Element.WrittenBy, Source.service]

theorem sourceId_lt_seven (src : Source) : sourceId src < 7 := by cases src <;> decide

/-- A drain of `k` steps, where only the last `k` sources may be pending and enabled: each step serves the first of
them, or none is left (R153, R158). -/
theorem drain {k : Nat} {s : State} (awake : s.sleeping = false) (empty : s.stream = [])
    (left : ∀ src, s.wanted src = true → 7 ≤ sourceId src + k) :
    ∃ t : State, Sys2Proof.core.run k s = .next t ∧ t.quiescent = true ∧ t.sleeping = false ∧ t.stream = [] := by
  induction k generalizing s with
  | zero =>
    have quiet : s.quiescent = true := s.quiescent_iff.mpr fun src =>
      Bool.eq_false_iff.mpr fun want => (sourceId_lt_seven src).not_ge (left src want)
    exact ⟨s, rfl, quiet, awake, empty⟩
  | succ k ih =>
    obtain ⟨src, turns, selected, hstep⟩ | ⟨unselected, hstep⟩ := step_drain awake empty
    · obtain ⟨serviceable, lowest⟩ := State.nextService_eq_some_iff.mp selected
      obtain ⟨t, hexec⟩ := exec_service_selected (s := { s with turns := turns }) selected
      obtain ⟨sleeping, stream⟩ := service_frame hexec
      rw [run_succ k (hstep.trans hexec)]
      refine ih (sleeping.trans awake) (stream.trans empty) fun src' want' => ?_
      obtain ⟨want, other⟩ := service_wanted hexec want'
      have first : 7 ≤ sourceId src + (k + 1) := left src (by simp_all [State.serviceable])
      have least := lowest src' (Bool.and_eq_true_iff.mpr ⟨want, by simp [awake]⟩)
      have ids : sourceId src' ≠ sourceId src := fun same => other (sourceId_injective same)
      omega
    · have quiet := (s.nextService_eq_none.mp unselected).resolve_left (by simp [awake])
      rw [run_succ k hstep]
      refine ih awake empty fun src want => ?_
      simp [s.quiescent_iff.mp quiet src] at want

/-- Settles O57: it holds, as the drain in which any of the seven sources may be pending and enabled. -/
theorem sevenStepsDrainTheBlock : Obligations.SevenStepsDrainTheBlock :=
  fun _ awake empty => drain awake empty fun src _ => Nat.le_add_left 7 (sourceId src)

/-! Sleep. -/

/-- The block is not quiescent exactly when some source is pending and enabled (R148). -/
theorem State.quiescent_eq_false_iff (s : State) :
    s.quiescent = false ↔ ∃ src, s.pend src = true ∧ s.enabled src = true := by
  rw [← Bool.not_eq_true, s.quiescent_iff]
  simp [State.wanted]

/-- A sleeping state after its wake: awake exactly if some source is pending and enabled (R165). -/
theorem State.wake_awake_iff {s : State} (asleep : s.sleeping = true) :
    s.wake.sleeping = false ↔ ∃ src, s.wake.pend src = true ∧ s.wake.enabled src = true := by
  rw [s.wake_sleeping, asleep, Bool.true_and, s.wake_eq]
  exact s.quiescent_eq_false_iff

/-- Settles O58: it holds; asleep only SYNC, ENC and BTN answer (`exec_next_asleep`), SYNC at quiescence. -/
theorem onlyEncAndBtnWakeTheBlock : Obligations.OnlyEncAndBtnWakeTheBlock := by
  intro i s t asleep h
  have answers := exec_next_asleep asleep h
  refine ⟨?_, fun awake => ?_, ?_⟩
  · obtain ⟨-, quiet, rfl⟩ | ⟨e, a, b, -, rfl⟩ | ⟨l, -, rfl⟩ := answers
    · rw [← t.quiescent_eq_false_iff, asleep, quiet]
    · exact State.wake_awake_iff (by simpa using asleep)
    · exact State.wake_awake_iff (by simpa [State.buttonLevel_sleeping] using asleep)
  · obtain ⟨-, -, rfl⟩ | ⟨e, a, b, rfl, -⟩ | ⟨l, rfl, -⟩ := answers
    · simp [asleep] at awake
    · exact .inl ⟨e, a, b, rfl⟩
    · exact .inr ⟨l, rfl⟩
  · have unwritten : ¬Element.convBusy.WrittenBy i ∧ ¬Element.dbtArmed.WrittenBy i ∧ ¬Element.dbState.WrittenBy i ∧
        ¬Element.log.WrittenBy i := by
      obtain ⟨rfl, -⟩ | ⟨e, a, b, rfl, -⟩ | ⟨l, rfl, -⟩ := answers <;> simp [Element.WrittenBy]
    obtain ⟨convBusy, dbtArmed, dbState, log⟩ := unwritten
    exact ⟨exec_next_same h convBusy, exec_next_same h dbtArmed, exec_next_same h dbState, exec_next_same h log⟩

/-- A change of the lines makes no source but QED pending (R25, R87). -/
theorem State.setLines_wanted {s : State} {src : Source} (e : Fin 2) (l : BitVec 2) (other : src ≠ .qed) :
    (s.setLines e l).wanted src = s.wanted src := by
  cases src <;> simp_all [State.wanted, State.pend, State.enabled]

/-- With the edge detector disabled a change of the level makes no source pending (R109). -/
theorem State.buttonLevel_wanted {s : State} (l : Bool) (src : Source) (closed : s.enabled .btn = false) :
    (s.buttonLevel l).wanted src = s.wanted src := by
  obtain ⟨armed, -⟩ | ⟨-, lineOnly⟩ := s.buttonLevel_cases l
  · simp [closed] at armed
  · rw [lineOnly]
    rfl

/-- A sleeping state in which nothing is pending and enabled does not wake (R165). -/
theorem State.wake_quiescent {s : State} (quiet : s.quiescent = true) : s.wake = s := if_pos quiet

/-- With BTN and QED disabled no operation ends a quiet sleep (R185). -/
theorem exec_keeps_quiet_sleep {i : Instr} {s t : State} (asleep : s.sleeping = true) (sleepQuiet : s.SleepQuiet)
    (btnOff : s.enabled .btn = false) (qedOff : s.enabled .qed = false) (h : exec i s = .next t) :
    t.sleeping = true ∧ t.SleepQuiet ∧ t.en = s.en := by
  have unwanted := s.quiescent_iff.mp (sleepQuiet asleep)
  obtain ⟨-, -, rfl⟩ | ⟨e, a, b, -, rfl⟩ | ⟨l, -, rfl⟩ := exec_next_asleep asleep h
  · exact ⟨asleep, sleepQuiet, rfl⟩
  · have quiet : (s.setLines e (lineState a b)).quiescent = true := (State.quiescent_iff _).mpr fun src => by
      by_cases qed : src = .qed
      · have off : (s.setLines e (lineState a b)).enabled .qed = false := by simpa [State.enabled] using qedOff
        simp [qed, State.wanted, off]
      · exact (State.setLines_wanted e _ qed).trans (unwanted src)
    rw [State.wake_quiescent quiet]
    exact ⟨by simpa using asleep, fun _ => quiet, by simp⟩
  · have quiet : (s.buttonLevel l).quiescent = true :=
      (State.quiescent_iff _).mpr fun src => (State.buttonLevel_wanted l src btnOff).trans (unwanted src)
    rw [State.wake_quiescent quiet]
    exact ⟨(s.buttonLevel_sleeping l).trans asleep, fun _ => quiet, s.buttonLevel_en l⟩

/-- Settles O59: it holds; ENC and BTN, the only events asleep, make only QED and BTN pending, which are disabled. -/
theorem sleepWithNoWakeSourceNeverEnds : Obligations.SleepWithNoWakeSourceNeverEnds := by
  intro s t asleep sleepQuiet btnOff qedOff h
  obtain ⟨i, stream, turns, -, hexec⟩ | ⟨awake, -⟩ := step_next_exec h
  · exact exec_keeps_quiet_sleep (s := { s with stream := stream, turns := turns }) asleep sleepQuiet btnOff qedOff hexec
  · simp [asleep] at awake

end Sys2Proof.Machine
end

section
/-! The register map (R57): each composed register, field by field. The fields lie side by side, so that each is found by
skipping those below it (`BitVec.extractLsb'_append_eq_of_le`) and is then the lowest. -/
namespace Sys2Proof.Machine

open Sys2Proof.Config

/-- A cursor's two bits are its number (R27). -/
theorem cursorBits_toNat (i : Fin 3) : (cursorBits i).toNat = i.val := by
  revert i
  decide

theorem dbStateBit_iff (d : DbState) : dbStateBit d = true ↔ d = .debouncing := by cases d <;> decide

theorem State.encStat_fields (s : State) :
    s.encStat.extractLsb' 0 4 = s.enc0.hist ∧ s.encStat.extractLsb' 4 4 = s.enc1.hist ∧
      s.encStat.extractLsb' 8 2 = s.enc0.lines ∧ s.encStat.extractLsb' 10 2 = s.enc1.lines ∧
      s.encStat.extractLsb' 12 4 = 0 := by
  simp only [State.encStat, BitVec.extractLsb'_append_eq_of_le, BitVec.extractLsb'_append_eq_right, Nat.reduceSub,
    Nat.reduceLeDiff, BitVec.extractLsb'_eq_self]
  simp

theorem State.seqStat_fields (s : State) :
    (s.seqStat.extractLsb' 0 2).toNat = s.cur.val ∧ (s.seqStat.extractLsb' 2 2).toNat = s.nxt.val ∧
      s.seqStat.extractLsb' 4 2 = s.rc ∧ s.seqStat.extractLsb' 6 3 = s.acc ∧ s.seqStat.extractLsb' 9 3 = s.dacc ∧
      s.seqStat.getLsbD 12 = s.adf ∧ s.seqStat.getLsbD 13 = s.convBusy ∧ s.seqStat.extractLsb' 14 2 = 0 := by
  simp only [State.seqStat, BitVec.extractLsb'_append_eq_of_le, BitVec.extractLsb'_append_eq_right, Nat.reduceSub,
    Nat.reduceLeDiff, BitVec.extractLsb'_eq_self, BitVec.getLsbD_append, Nat.reduceLT, if_false, cursorBits_toNat]
  simp

theorem State.statusWord_fields (s : State) :
    s.statusWord.getLsbD 0 = s.tripLost ∧ s.statusWord.getLsbD 1 = s.tripStop ∧ s.statusWord.getLsbD 2 = s.go ∧
      s.statusWord.getLsbD 3 = s.goPrev ∧ s.statusWord.getLsbD 4 = dbStateBit s.dbState ∧
      s.statusWord.getLsbD 5 = s.dbDir ∧ s.statusWord.getLsbD 6 = s.dbtArmed ∧ s.statusWord.getLsbD 7 = s.btnLine ∧
      s.statusWord.getLsbD 8 = s.sleeping ∧ s.statusWord.extractLsb' 9 7 = 0 := by
  simp only [State.statusWord, BitVec.extractLsb'_append_eq_of_le, Nat.reduceSub, Nat.reduceLeDiff,
    BitVec.extractLsb'_eq_self, BitVec.getLsbD_append, Nat.reduceLT, if_false]
  simp

theorem State.pendVector_bits (s : State) :
    s.pendVector.getLsbD 0 = s.pend .disp ∧ s.pendVector.getLsbD 1 = s.pend .btn ∧
      s.pendVector.getLsbD 2 = s.pend .adc ∧ s.pendVector.getLsbD 3 = s.pend .qed ∧
      s.pendVector.getLsbD 4 = s.pend .dbt ∧ s.pendVector.getLsbD 5 = s.pend .ctrl ∧
      s.pendVector.getLsbD 6 = s.pend .obs := by
  simp only [State.pendVector, BitVec.getLsbD_append, Nat.reduceSub, Nat.reduceLT, if_false]
  simp

theorem State.sensorsWord_fields (s : State) :
    s.sensorsWord.extractLsb' 0 4 = (s.sensor s.cur).ch ∧
      (s.sensorsWord.extractLsb' 4 2).toNat = (s.sensor s.cur).lbit.val ∧
      (s.sensorsWord.extractLsb' 6 2).toNat = (s.sensor s.cur).dbit.val ∧ s.sensorsWord.extractLsb' 8 8 = 0 := by
  simp only [State.sensorsWord, BitVec.extractLsb'_append_eq_of_le, BitVec.extractLsb'_append_eq_right, Nat.reduceSub,
    Nat.reduceLeDiff, BitVec.extractLsb'_eq_self, cursorBits_toNat]
  simp

/-- A register of two fields is its low and its high field. -/
theorem append_fields {n m : Nat} (high : BitVec n) (low : BitVec m) :
    (high ++ low).extractLsb' 0 m = low ∧ (high ++ low).extractLsb' m n = high :=
  ⟨BitVec.extractLsb'_append_eq_right, BitVec.extractLsb'_append_eq_left⟩

/-- A register of three fields is its low, its middle and its high field. -/
theorem append_fields₃ {n m k : Nat} (high : BitVec n) (middle : BitVec m) (low : BitVec k) :
    (high ++ middle ++ low).extractLsb' 0 k = low ∧ (high ++ middle ++ low).extractLsb' k m = middle ∧
      (high ++ middle ++ low).extractLsb' (k + m) n = high := by
  refine ⟨BitVec.extractLsb'_append_eq_right, ?_, ?_⟩
  · rw [BitVec.extractLsb'_append_eq_of_le le_rfl, Nat.sub_self, BitVec.extractLsb'_append_eq_right]
  · rw [BitVec.extractLsb'_append_eq_of_le (Nat.le_add_right k m), Nat.add_sub_cancel_left,
      BitVec.extractLsb'_append_eq_left]

/-- A bit of the low field (R12). -/
theorem getLsbD_append_low {n m j : Nat} (high : BitVec n) (low : BitVec m) (hj : j < m) :
    (high ++ low).getLsbD j = low.getLsbD j := by
  rw [BitVec.getLsbD_append, if_pos hj]

/-- Settles O53: it holds, register by register; STATUS bit 8 is SLEEPING, which no enabled host step finds set. -/
theorem registerMapHoldsTheListedFields : Obligations.RegisterMapHoldsTheListedFields := by
  intro s
  refine ⟨s.encStat, s.seqStat, 0#13 ++ s.lp, 0#4 ++ s.sampleReg, s.stop ++ s.lost, s.statusWord, 0#9 ++ s.pendVector,
    0#9 ++ s.en, s.dutyL ++ s.dutyR, 0#8 ++ s.muxsel ++ s.convCh, s.sensorsWord,
    ⟨rfl, rfl, rfl, rfl, rfl, rfl, rfl, rfl, rfl, rfl, rfl, rfl, rfl⟩, s.encStat_fields, s.seqStat_fields,
    append_fields _ _, append_fields _ _, append_fields _ _, ?status, ?pend, append_fields _ _, append_fields _ _,
    append_fields₃ 0#8 s.muxsel s.convCh, s.sensorsWord_fields⟩
  case status =>
    obtain ⟨tripLost, tripStop, go, goPrev, dbState, dbDir, dbtArmed, btnLine, sleeping, rest⟩ := s.statusWord_fields
    exact ⟨tripLost, tripStop, go, goPrev, dbState ▸ dbStateBit_iff _, dbDir, dbtArmed, btnLine, sleeping,
      fun enabled => sleeping.trans (s.hostEnabled_iff.mp enabled).1, rest⟩
  case pend =>
    obtain ⟨disp, btn, adc, qed, dbt, ctrl, obs⟩ := s.pendVector_bits
    have low (j : Nat) (hj : j < 7) := getLsbD_append_low 0#9 s.pendVector hj
    exact ⟨(low 0 (by decide)).trans disp, (low 1 (by decide)).trans btn, (low 2 (by decide)).trans adc,
      (low 3 (by decide)).trans qed, (low 4 (by decide)).trans dbt, (low 5 (by decide)).trans ctrl,
      (low 6 (by decide)).trans obs, (append_fields 0#9 s.pendVector).2⟩

end Sys2Proof.Machine
end

section
/-! Quadrature by direction (R88, R90, R92): the default table at a forward step, a reverse step and a glitch. -/
namespace Sys2Proof.Machine

open Sys2Proof.Config

theorem qtabAt_default {p : Params} (default : p.qtab = qtabDefault) (i : BitVec 4) :
    qtabAt p i = qtabDefault[i.toNat]'i.isLt := by
  simp only [qtabAt, default]

/-- A forward step is a change, and the default table counts it +1 (R88, R90). -/
theorem forwardStep_counts (prev : BitVec 2) :
    forwardStep prev ≠ prev ∧ qtabDefault[(prev ++ forwardStep prev).toNat]'(BitVec.isLt _) = 1 := by
  revert prev
  decide

/-- A reverse step is a change, and the default table counts it -1 (R88, R90). -/
theorem reverseStep_counts (prev : BitVec 2) :
    reverseStep prev ≠ prev ∧ qtabDefault[(prev ++ reverseStep prev).toNat]'(BitVec.isLt _) = -1 := by
  revert prev
  decide

/-- A change of both lines is a change, and the default table counts it 0 (R88, R92). -/
theorem glitch_counts (prev : BitVec 2) :
    ~~~prev ≠ prev ∧ qtabDefault[(prev ++ ~~~prev).toNat]'(BitVec.isLt _) = 0 := by
  revert prev
  decide

/-- An encoder after an edge to `new` whose table entry is `d`: the history is `prev ++ new` and `d` is added to the count,
modulo 2^16 (R89, R94). -/
def Encoder.afterEdge (c : Encoder) (prev new : BitVec 2) (d : Int) : Encoder :=
  ⟨new, prev ++ new, c.count + BitVec.ofInt 16 d⟩

/-- With the default table an edge counts the table's entry at `prev ++ new`. -/
theorem Encoder.decodeEdge_default {p : Params} {c : Encoder} {prev new : BitVec 2} {d : Int}
    (default : p.qtab = qtabDefault) (hprev : c.hist.extractLsb' 0 2 = prev) (hnew : c.lines = new)
    (counts : new ≠ prev ∧ qtabDefault[(prev ++ new).toNat]'(BitVec.isLt _) = d) :
    c.decodeEdge p = c.afterEdge prev new d := by
  subst hprev hnew
  obtain ⟨edge, entry⟩ := counts
  rw [Encoder.decodeEdge_of_lines_ne p edge, qtabAt_default default, entry, BitVec.ofInt_add, BitVec.ofInt_toInt]
  rfl

/-- Settles O31: it holds, since QTAB is read at `prev ++ new` in each of the three directions. -/
theorem quadratureCountsByDirection : Obligations.QuadratureCountsByDirection := by
  intro s t e prev default h hprev
  obtain ⟨-, -, rfl⟩ := execSvcQed_next h
  rw [s.decodeEdges_encoder e]
  refine ⟨fun forward => ?_, fun reverse => ?_, fun glitch => ?_, fun edge => ?_⟩
  · rw [Encoder.decodeEdge_default default hprev forward (forwardStep_counts prev)]
    rfl
  · rw [Encoder.decodeEdge_default default hprev reverse (reverseStep_counts prev), BitVec.sub_eq_add_neg]
    rfl
  · rw [Encoder.decodeEdge_default default hprev glitch (glitch_counts prev)]
    exact BitVec.add_zero _
  · rw [← hprev] at edge ⊢
    rw [Encoder.decodeEdge_of_lines_ne _ edge]

end Sys2Proof.Machine
end

section
/-! Sequences of an event and its service, from an awake and quiescent state (R91, R108, R116, R129): the event leaves
exactly one source pending and enabled, which is therefore selected, and whose service leaves the block quiescent. -/
namespace Sys2Proof.Machine

open Sys2Proof.Config

theorem execAll_cons {i : Instr} {s u : State} (is : List Instr) (h : exec i s = .next u) :
    execAll (i :: is) s = execAll is u := by
  simp [execAll, h]

/-- One source, and no other, is pending and enabled. -/
def State.WantsOnly (s : State) (src : Source) : Prop :=
  s.wanted src = true ∧ ∀ src', src' ≠ src → s.wanted src' = false

theorem State.WantsOnly.selected {s : State} {src : Source} (only : s.WantsOnly src) (awake : s.sleeping = false) :
    s.nextService = some src := by
  obtain ⟨want, others⟩ := only
  refine State.nextService_eq_some_iff.mpr ⟨by simp [State.serviceable, want, awake], fun src' serviceable => ?_⟩
  by_cases same : src' = src
  · rw [same]
  · simp [State.serviceable, others src' same] at serviceable

/-- The service of the one source leaves the block quiescent (R151, R153). -/
theorem State.WantsOnly.quiescent_after {s t : State} {src : Source} (only : s.WantsOnly src)
    (h : exec src.service s = .next t) : t.quiescent = true := by
  refine t.quiescent_iff.mpr fun src' => Bool.eq_false_iff.mpr fun want' => ?_
  obtain ⟨want, other⟩ := service_wanted h want'
  simp [only.2 src' other] at want

/-- Setting an enabled source's latch in a quiescent state. -/
theorem State.wantsOnly_setPend {s : State} {src : Source} (quiet : s.quiescent = true) (enabled : s.enabled src = true)
    (latched : src ≠ .qed) : (s.setPend src true).WantsOnly src := by
  have unwanted := s.quiescent_iff.mp quiet
  have pend : (s.setPend src true).pend src = true := by
    rw [State.pend_eq, if_neg latched]
    exact (s.latch.get_set src src true).trans (if_pos ⟨rfl, latched⟩)
  have others (src' : Source) (other : src' ≠ src) : (s.setPend src true).pend src' = s.pend src' := by
    rw [State.pend_eq, State.pend_eq]
    split
    · rfl
    · exact (s.latch.get_set src src' true).trans (if_neg fun same => other same.1.symm)
  refine ⟨Bool.and_eq_true_iff.mpr ⟨pend, enabled⟩, fun src' other => ?_⟩
  rw [State.wanted, others src' other]
  exact unwanted src'

/-- In a quiescent state no enabled source is pending. -/
theorem State.pend_of_quiescent {s : State} {src : Source} (quiet : s.quiescent = true) (enabled : s.enabled src = true) :
    s.pend src = false := by
  simpa [State.wanted, enabled] using s.quiescent_iff.mp quiet src

/-! Control periods (R129). -/

/-- A control period of a running block from quiescence applies the status of LP and nothing else (R120, R123). -/
theorem controlPeriodCycle_next {s : State} {status : Status} (awake : s.sleeping = false) (quiet : s.quiescent = true)
    (enabled : s.enabled .ctrl = true) (runs : s.go = true) (classified : classify s.lp = status) :
    execAll controlPeriodCycle s = .next (s.applyStatus status) := by
  have only := State.wantsOnly_setPend quiet enabled nofun
  have serviced : (s.setPend .ctrl true).setPend .ctrl false = s := by
    have clear : s.latch.ctrl = false := State.pend_of_quiescent quiet enabled
    simp [State.setPend, Latches.set, ← clear]
  rw [controlPeriodCycle, execAll_cons _ (exec_tickCtrl_awake awake),
    execAll_cons _ (exec_svcCtrl_running (only.selected awake) (.inl runs) classified), serviced]
  rfl

/-- Control periods of one status, from quiescence (R129). -/
theorem controlPeriods_next {s : State} {status : Status} (n : Nat) (awake : s.sleeping = false)
    (quiet : s.quiescent = true) (enabled : s.enabled .ctrl = true) (runs : s.go = true)
    (classified : classify s.lp = status) :
    execAll ((List.replicate n controlPeriodCycle).flatten) s = .next ((State.applyStatus · status)^[n] s) := by
  induction n generalizing s with
  | zero => rfl
  | succ n ih =>
    rw [List.replicate_succ, List.flatten_cons,
      execAll_append _ _ _ _ (controlPeriodCycle_next awake quiet enabled runs classified)]
    refine (ih ?_ ?_ ?_ ?_ ?_).trans rfl
    all_goals cases status <;> assumption

theorem applyStatus_lost_iterate (n : Nat) (s : State) :
    (State.applyStatus · .lost)^[n] s = { s with lost := satInc^[n] s.lost } := by
  induction n generalizing s with
  | zero => rfl
  | succ n ih => exact ih _

theorem applyStatus_stop_iterate (n : Nat) (s : State) :
    (State.applyStatus · .stop)^[n] s = { s with stop := satInc^[n] s.stop } := by
  induction n generalizing s with
  | zero => rfl
  | succ n ih => exact ih _

/-- A saturating counter counts from 0 up to 255 (R124). -/
theorem satInc_iterate_toNat (n : Nat) : (satInc^[n] 0).toNat = min n 255 := by
  induction n with
  | zero => rfl
  | succ n ih =>
    rw [Function.iterate_succ_apply', satInc_toNat, ih]
    omega

/-- Settles O49: it holds, by induction on the number of periods: each applies one saturating increment. -/
theorem eleventhFaultPeriodTrips : Obligations.EleventhFaultPeriodTrips := by
  intro s n awake quiet enabled runs
  refine ⟨fun row clear => ?_, fun row clear => ?_⟩
  · have counter := satInc_iterate_toNat n
    rw [← clear] at counter
    refine ⟨_, controlPeriods_next n awake quiet enabled runs (classify_lost_row row), ?_⟩
    rw [applyStatus_lost_iterate]
    refine ⟨counter, (State.tripLost_iff _).trans ?_, rfl⟩
    rw [counter]
    omega
  · have stopped : classify s.lp = .stop := by rw [row]; rfl
    have counter := satInc_iterate_toNat n
    rw [← clear] at counter
    refine ⟨_, controlPeriods_next n awake quiet enabled runs stopped, ?_⟩
    rw [applyStatus_stop_iterate]
    refine ⟨counter, (State.tripStop_iff _).trans ?_, rfl⟩
    rw [counter]
    omega

end Sys2Proof.Machine
end

section
/-! The debounce episode, the clean quadrature cycles and the sample round (R116, R91, R108), each from its own cycle of
event and service. -/
namespace Sys2Proof.Machine

open Sys2Proof.Config

/-! Debounce (R116). -/

/-- An awake and quiescent block with the one-shot running and the edge detector closed (R112). -/
structure State.Debouncing (s : State) : Prop where
  awake : s.sleeping = false
  quiet : s.quiescent = true
  timer : s.enabled .dbt = true
  closed : s.enabled .btn = false
  debouncing : s.dbState = .debouncing
  armed : s.dbtArmed = true

/-- An edge that the detector latches (R109). -/
theorem exec_btn_edge {s : State} {l : Bool} (awake : s.sleeping = false) (quiet : s.quiescent = true)
    (detector : s.enabled .btn = true) (edge : l ≠ s.btnLine) :
    exec (.btn l) s = .next ({ s with btnLine := l, dbDir := l }.setPend .btn true) := by
  have clear : s.pend .btn = false := State.pend_of_quiescent quiet detector
  have effect := (s.buttonLevel_eq l).trans (if_pos ⟨detector, clear, edge⟩)
  exact (endStep_awake _ awake).trans (congrArg _ effect)

/-- A latched and serviced edge arms the debouncer with its direction, and GO is as before (R109, R112). -/
theorem edge_serviced {s : State} {l : Bool} (awake : s.sleeping = false) (quiet : s.quiescent = true)
    (detector : s.enabled .btn = true) (timer : s.enabled .dbt = true) (edge : l ≠ s.btnLine) :
    ∃ t, execAll [.btn l, .svcBtn] s = .next t ∧ t.Debouncing ∧ t.btnLine = l ∧ t.dbDir = l ∧ t.go = s.go ∧
      t.params = s.params := by
  have latched := exec_btn_edge awake quiet detector edge
  have only := State.wantsOnly_setPend (s := { s with btnLine := l, dbDir := l }) (src := .btn) quiet detector nofun
  have serviced := exec_svcBtn_selected (only.selected awake)
  have run := (execAll_cons [.svcBtn] latched).trans (execAll_cons [] serviced)
  refine ⟨_, run, ⟨?_, only.quiescent_after serviced, ?timer, State.armDebounce_enabled_btn _, ?_, ?_⟩, ?_, ?_, ?_, ?_⟩
  case timer => exact (State.armDebounce_enabled_of_ne _ (src := .dbt) nofun).trans timer
  all_goals simp [State.armDebounce, awake]

/-- The fired and serviced one-shot inverts GO if the line confirms, and reopens the detector (R110, R114). -/
theorem fire_serviced {s : State} (h : s.Debouncing) :
    ∃ t, execAll [.dbtFire, .svcDbt] s = .next t ∧ t.go = (s.go ^^ s.confirms s.btnLine) ∧ t.dbState = .idle ∧
      t.enabled .btn = true := by
  let u := { s with dbtArmed := false }.setPend .dbt true
  have fired : exec .dbtFire s = .next u := by
    rw [exec_dbtFire_awake h.awake, h.armed]
    rfl
  have only : u.WantsOnly .dbt := State.wantsOnly_setPend (s := { s with dbtArmed := false }) h.quiet h.timer nofun
  have serviced := exec_svcDbt_selected (only.selected h.awake)
  refine ⟨_, (execAll_cons _ fired).trans (execAll_cons _ serviced), ?_⟩
  obtain ⟨-, confirmed⟩ | ⟨idle, -⟩ := (u.setPend .dbt false).confirmDebounce_cases
  · rw [confirmed]
    exact ⟨rfl, rfl, (setBit_getLsbD s.en _ _ true (by decide)).trans (if_pos rfl)⟩
  · cases h.debouncing.symm.trans idle

/-- With the detector closed a level is only written (R109). -/
theorem State.Debouncing.level_written {s : State} (h : s.Debouncing) (l : Bool) :
    exec (.btn l) s = .next { s with btnLine := l } := by
  have effect : s.buttonLevel l = { s with btnLine := l } :=
    (s.buttonLevel_eq l).trans (if_neg fun armed => by simp [h.closed] at armed)
  exact (endStep_awake _ h.awake).trans (congrArg _ effect)

/-- With TOGGLE_ON = BOTH the line confirms exactly if it is still as after the edge (R113). -/
theorem State.confirms_both {s : State} (both : s.params.toggleOn = .both) (sample : Bool) :
    s.confirms sample = (sample == s.dbDir) := by
  simp [State.confirms, both]

/-- Settles O45: it holds; the edge arms the debouncer with its direction, and at the fire the line is compared with it. -/
theorem debounceFlipsOnceOrNotAtAll : Obligations.DebounceFlipsOnceOrNotAtAll := by
  intro s l both awake quiet detector timer edge
  obtain ⟨a, armed, debouncing, line, dir, go, params⟩ := edge_serviced awake quiet detector timer edge
  have both' : a.params.toggleOn = .both := params ▸ both
  constructor
  · obtain ⟨t, fired, go', idle, reopened⟩ := fire_serviced debouncing
    refine ⟨t, (execAll_append _ [.dbtFire, .svcDbt] _ _ armed).trans fired, ?_, idle, reopened⟩
    rw [go', State.confirms_both both', line, dir, go]
    simp
  · have reversed : ({ a with btnLine := !l } : State).Debouncing :=
      ⟨debouncing.awake, debouncing.quiet, debouncing.timer, debouncing.closed, debouncing.debouncing, debouncing.armed⟩
    obtain ⟨t, fired, go', idle, reopened⟩ := fire_serviced reversed
    refine ⟨t, (execAll_append _ [.btn (!l), .dbtFire, .svcDbt] _ _ armed).trans
      ((execAll_cons _ (debouncing.level_written (!l))).trans fired), ?_, idle, reopened⟩
    rw [go', State.confirms_both (s := { a with btnLine := !l }) both']
    simp [dir, go]

/-! Quadrature cycles (R91). -/

/-- An awake and quiescent block that counts with the default table. -/
structure State.Tracking (s : State) : Prop where
  awake : s.sleeping = false
  quiet : s.quiescent = true
  counts : s.enabled .qed = true
  default : s.params.qtab = qtabDefault

/-- With QED enabled and quiescent no encoder has a pending change (R25). -/
theorem State.Tracking.hist {s : State} (h : s.Tracking) (e : Fin 2) :
    (s.encoder e).hist.extractLsb' 0 2 = (s.encoder e).lines := by
  have unchanged : s.qedPend = false := State.pend_of_quiescent h.quiet h.counts
  have same : (s.encoder e).changed = false := by
    rw [State.qedPend, Bool.or_eq_false_iff] at unchanged
    fin_cases e
    · exact unchanged.1
    · exact unchanged.2
  exact (bne_eq_false_iff_eq.mp same).symm

theorem State.qedPend_of_changed {s : State} (e : Fin 2) (changed : (s.encoder e).changed = true) : s.qedPend = true := by
  fin_cases e
  · exact Bool.or_eq_true_iff.mpr (.inl changed)
  · exact Bool.or_eq_true_iff.mpr (.inr changed)

/-- A change of an encoder's lines makes QED, and only QED, pending and enabled (R25, R87). -/
theorem State.Tracking.wantsOnly_qed {s : State} (h : s.Tracking) (e : Fin 2) {new : BitVec 2}
    (edge : new ≠ (s.encoder e).lines) : (s.setLines e new).WantsOnly .qed := by
  have changed : ((s.setLines e new).encoder e).changed = true := by
    rw [State.setLines_encoder_same, Encoder.changed_iff, h.hist e]
    exact edge
  have enabled : (s.setLines e new).enabled .qed = true := by
    rw [State.enabled, State.setLines_en]
    exact h.counts
  refine ⟨Bool.and_eq_true_iff.mpr ⟨State.qedPend_of_changed e changed, enabled⟩, fun src other => ?_⟩
  rw [State.setLines_wanted e new other]
  exact s.quiescent_iff.mp h.quiet src

/-- A serviced change of one encoder's lines is an edge of that encoder alone (R89, R91). -/
theorem encoderCycle_next {s : State} (h : s.Tracking) (e : Fin 2) (a b : Bool) {prev : BitVec 2} {d : Int}
    (hprev : (s.encoder e).lines = prev)
    (counts : lineState a b ≠ prev ∧ qtabDefault[(prev ++ lineState a b).toNat]'(BitVec.isLt _) = d) :
    ∃ t, execAll (encoderCycle e a b) s = .next t ∧ t.Tracking ∧
      t.encoder e = (s.encoder e).afterEdge prev (lineState a b) d ∧ ∀ e', e' ≠ e → t.encoder e' = s.encoder e' := by
  let u := s.setLines e (lineState a b)
  have changed : u.encoder e = { s.encoder e with lines := lineState a b } := s.setLines_encoder_same e _
  have default : u.params.qtab = qtabDefault := by rw [State.setLines_params, h.default]
  have awake : u.sleeping = false := (State.setLines_sleeping ..).trans h.awake
  have written : exec (.enc e a b) s = .next u := endStep_awake _ h.awake
  have only : u.WantsOnly .qed := h.wantsOnly_qed e (hprev ▸ counts.1)
  have serviced := exec_svcQed_selected (only.selected awake)
  refine ⟨u.decodeEdges, (execAll_cons _ written).trans (execAll_cons _ serviced),
    ⟨awake, only.quiescent_after serviced, ?counts, default⟩, ?decoded, fun e' other => ?_⟩
  case counts =>
    rw [State.enabled, State.decodeEdges_en, State.setLines_en]
    exact h.counts
  case decoded =>
    rw [State.decodeEdges_encoder, changed]
    exact Encoder.decodeEdge_default default ((h.hist e).trans hprev) rfl counts
  · rw [State.decodeEdges_encoder, s.setLines_encoder_of_ne _ other, Encoder.decodeEdge_of_lines_eq]
    exact (h.hist e').symm

/-- Every change along a path of line states is an edge that the default table counts `d`. -/
def EachCounts (d : Int) : BitVec 2 → List (Bool × Bool) → Prop
  | _, [] => True
  | prev, (a, b) :: path =>
    (lineState a b ≠ prev ∧ qtabDefault[(prev ++ lineState a b).toNat]'(BitVec.isLt _) = d) ∧
      EachCounts d (lineState a b) path

/-- An encoder after the edges of such a path. -/
def Encoder.afterPath (d : Int) (c : Encoder) (path : List (Bool × Bool)) : Encoder :=
  path.foldl (fun c (a, b) => c.afterEdge c.lines (lineState a b) d) c

/-- The serviced changes along a path, one after the other. -/
theorem encoderCycles_next {s : State} (h : s.Tracking) (e : Fin 2) {d : Int} (path : List (Bool × Bool))
    (counts : EachCounts d (s.encoder e).lines path) :
    ∃ t, execAll (path.map fun (a, b) => encoderCycle e a b).flatten s = .next t ∧
      t.encoder e = (s.encoder e).afterPath d path ∧ ∀ e', e' ≠ e → t.encoder e' = s.encoder e' := by
  induction path generalizing s with
  | nil => exact ⟨s, rfl, rfl, fun _ _ => rfl⟩
  | cons ab path ih =>
    obtain ⟨a, b⟩ := ab
    obtain ⟨edge, rest⟩ := counts
    obtain ⟨u, first, tracking, moved, untouched⟩ := encoderCycle_next h e a b rfl edge
    have lines : (u.encoder e).lines = lineState a b := congrArg Encoder.lines moved
    obtain ⟨t, run, decoded, untouched'⟩ := ih tracking (lines ▸ rest)
    refine ⟨t, (execAll_append _ _ _ _ first).trans run, ?_, fun e' other => (untouched' e' other).trans (untouched e' other)⟩
    rw [decoded, moved]
    rfl

/-- The clean cycle from line state 00 in the forward direction: 01, 11, 10, 00 (R91). -/
def forwardCycle : List (Bool × Bool) := [(false, true), (true, true), (true, false), (false, false)]

/-- The clean cycle from line state 00 in the reverse direction: 10, 11, 01, 00 (R91). -/
def reverseCycle : List (Bool × Bool) := [(true, false), (true, true), (false, true), (false, false)]

theorem Encoder.afterPath_count (d : Int) (c : Encoder) (path : List (Bool × Bool)) :
    (c.afterPath d path).count = c.count + BitVec.ofInt 16 (d * path.length) := by
  induction path generalizing c with
  | nil => simp [Encoder.afterPath]
  | cons ab path ih =>
    obtain ⟨a, b⟩ := ab
    calc (c.afterPath d ((a, b) :: path)).count
        = c.count + BitVec.ofInt 16 d + BitVec.ofInt 16 (d * path.length) := ih _
      _ = c.count + BitVec.ofInt 16 (d * (path.length + 1 : Nat)) := by
        rw [BitVec.add_assoc, ← BitVec.ofInt_add, Int.natCast_succ, Int.mul_add, Int.mul_one, Int.add_comm d]

/-- The forward cycle counts +1 at each change, through the four histories of R91. -/
theorem forwardCycle_counts {c : Encoder} (lines : c.lines = 0b00) {n : Nat} {h : BitVec 4}
    (listed : (n, h) ∈ [(1, 0b0001#4), (2, 0b0111#4), (3, 0b1110#4), (4, 0b1000#4)]) :
    EachCounts 1 c.lines (forwardCycle.take n) ∧ (c.afterPath 1 (forwardCycle.take n)).hist = h ∧
      (c.afterPath 1 (forwardCycle.take n)).count = c.count + BitVec.ofNat 16 n := by
  rw [Encoder.afterPath_count]
  obtain ⟨l, hist, count⟩ := c
  subst lines
  simp only [List.mem_cons, Prod.mk.injEq, List.not_mem_nil, or_false] at listed
  obtain ⟨rfl, rfl⟩ | ⟨rfl, rfl⟩ | ⟨rfl, rfl⟩ | ⟨rfl, rfl⟩ := listed
  all_goals
    refine ⟨?_, ?_, rfl⟩
    · simp only [forwardCycle, List.take, EachCounts]
      decide
    · simp [Encoder.afterPath, Encoder.afterEdge, forwardCycle, lineState]

/-- The reverse cycle counts -1 at each change, through the four histories of R91. -/
theorem reverseCycle_counts {c : Encoder} (lines : c.lines = 0b00) {n : Nat} {h : BitVec 4}
    (listed : (n, h) ∈ [(1, 0b0010#4), (2, 0b1011#4), (3, 0b1101#4), (4, 0b0100#4)]) :
    EachCounts (-1) c.lines (reverseCycle.take n) ∧ (c.afterPath (-1) (reverseCycle.take n)).hist = h ∧
      (c.afterPath (-1) (reverseCycle.take n)).count = c.count - BitVec.ofNat 16 n := by
  rw [Encoder.afterPath_count, BitVec.sub_eq_add_neg]
  obtain ⟨l, hist, count⟩ := c
  subst lines
  simp only [List.mem_cons, Prod.mk.injEq, List.not_mem_nil, or_false] at listed
  obtain ⟨rfl, rfl⟩ | ⟨rfl, rfl⟩ | ⟨rfl, rfl⟩ | ⟨rfl, rfl⟩ := listed
  all_goals
    refine ⟨?_, ?_, rfl⟩
    · simp only [reverseCycle, List.take, EachCounts]
      decide
    · simp [Encoder.afterPath, Encoder.afterEdge, reverseCycle, lineState]

/-- Settles O32: it holds; each change is an edge that counts the same way, and the histories are read off along the
path. -/
theorem cleanCyclesCountFourEachWay : Obligations.CleanCyclesCountFourEachWay := by
  intro s e default awake quiet counts lines
  have tracking : s.Tracking := ⟨awake, quiet, counts, default⟩
  refine ⟨fun n h listed => ?_, fun n h listed => ?_⟩
  · obtain ⟨clean, hist, count⟩ := forwardCycle_counts lines listed
    obtain ⟨t, run, decoded, untouched⟩ := encoderCycles_next tracking e _ clean
    rw [List.map_take] at run
    exact ⟨t, run, decoded ▸ hist, decoded ▸ count, untouched⟩
  · obtain ⟨clean, hist, count⟩ := reverseCycle_counts lines listed
    obtain ⟨t, run, decoded, untouched⟩ := encoderCycles_next tracking e _ clean
    rw [List.map_take] at run
    exact ⟨t, run, decoded ▸ hist, decoded ▸ count, untouched⟩

end Sys2Proof.Machine
end

section
/-! The sample round (R105, R108): what one sample, one sensor's two samples, and the three sensors of the ring leave. -/
namespace Sys2Proof.Machine

open Sys2Proof.Config

/-- An awake and quiescent block with a conversion in flight and ADC enabled. -/
structure State.Sampling (s : State) : Prop where
  awake : s.sleeping = false
  quiet : s.quiescent = true
  enabled : s.enabled .adc = true
  busy : s.convBusy = true

/-- The result of a conversion, stored, flagged and followed by the next conversion (R96, R97). -/
def State.flagSample (s : State) (v : BitVec 12) : State :=
  { ({ s with sampleReg := v, convBusy := false }.setPend .adc true).setPend .adc false with adf := true }.startConversion

/-- A sample that completes, is flagged and is processed (R105). -/
def State.sampled (s : State) (v : BitVec 12) : State := (s.flagSample v).runSequencer

@[simp] theorem State.sampled_params (s : State) (v : BitVec 12) : (s.sampled v).params = s.params := by
  rw [State.sampled, State.runSequencer_frame]
  rfl

theorem sampleCycle_next {s : State} (h : s.Sampling) (v : BitVec 12) :
    execAll (sampleCycle v) s = .next (s.sampled v) ∧ (s.sampled v).Sampling := by
  let completed := { s with sampleReg := v, convBusy := false }.setPend .adc true
  have stored : exec (.adc v) s = .next completed := (exec_adc_awake v h.awake).trans (if_pos h.busy)
  have only : completed.WantsOnly .adc :=
    State.wantsOnly_setPend (s := { s with sampleReg := v, convBusy := false }) h.quiet h.enabled nofun
  have flagged : exec .svcAdc completed = .next (s.flagSample v) := exec_svcAdc_selected (only.selected h.awake)
  have quiet : (s.flagSample v).quiescent = true := only.quiescent_after flagged
  have processed := exec_hSample_enabled ((s.flagSample v).hostEnabled_iff.mpr ⟨h.awake, quiet⟩)
  refine ⟨(execAll_cons _ stored).trans ((execAll_cons _ flagged).trans (execAll_cons _ processed)), ?_⟩
  rw [State.sampled, State.runSequencer_frame]
  exact ⟨h.awake, quiet, h.enabled, rfl⟩

/-- The next sample is the first reading of the sensor at NXT: the ring is pre-advanced, or the block is as reset left
it (R99, R101). -/
def State.AtSensorStart (s : State) : Prop := s.nxt ≠ s.cur ∨ s.nxt = s.cur ∧ s.rc = 0

/-- The first sample of a sensor is not measured; ACC is emptied at HEAD only (R99 to R101). -/
theorem State.sampled_first {s : State} (start : s.AtSensorStart) (v : BitVec 12) :
    (s.sampled v).cur = s.nxt ∧ (s.sampled v).nxt = s.nxt ∧ (s.sampled v).rc = 1 ∧
      (s.nxt ≠ s.params.head → (s.sampled v).acc = s.acc) := by
  obtain advanced | ⟨same, first⟩ := start
  · have adopted : s.sampled v = _ := State.runSequencer_adopts (s := s.flagSample v) rfl advanced
    rw [adopted]
    exact ⟨rfl, rfl, rfl, fun notHead => if_neg notHead⟩
  · have settled : s.sampled v = _ := State.runSequencer_first (s := s.flagSample v) rfl same first
    rw [settled]
    exact ⟨same.symm, rfl, rfl, fun _ => rfl⟩

/-- The second sample of a sensor is measured at its own bit of ACC, and NXT moves on (R103). -/
theorem State.sampled_second {s : State} (same : s.nxt = s.cur) (second : s.rc = 1) (v : BitVec 12) :
    (s.sampled v).cur = s.cur ∧ (s.sampled v).nxt = s.params.succ s.cur ∧ ∀ j, (s.sampled v).acc.getLsbD j =
      if j = (s.sensor s.cur).lbit.val then binarise v else s.acc.getLsbD j := by
  have measured : s.sampled v = _ := State.runSequencer_second (s := s.flagSample v) rfl same second
  rw [measured]
  exact ⟨rfl, rfl, fun j => State.seqMeasure_acc_getLsbD _ _ j⟩

/-- A sampling block whose next sample is the first reading of sensor `i` of the ring. -/
structure State.Loads (p : Params) (i : SensorId) (s : State) : Prop where
  sampling : s.Sampling
  params : s.params = p
  nxt : s.nxt = i
  start : s.AtSensorStart

/-- The two samples of sensor `i` write its bit of ACC by the second one, keep the other bits unless the sensor is HEAD,
and pre-advance the ring (R99 to R103). -/
theorem sensorCycle_next {p : Params} {i : SensorId} {s : State} (wellFormed : p.WellFormed) (h : s.Loads p i)
    (x y : BitVec 12) :
    ∃ t, execAll (sampleCycle x ++ sampleCycle y) s = .next t ∧ t.Loads p (p.succ i) ∧ t.nxt ≠ t.cur ∧
      t.acc.getLsbD p.sensors[i].lbit.val = decide (y.toNat ≥ 3500) ∧
      (i ≠ p.head → ∀ j, j ≠ p.sensors[i].lbit.val → t.acc.getLsbD j = s.acc.getLsbD j) := by
  obtain ⟨sampling, rfl, rfl, start⟩ := h
  obtain ⟨first, sampling⟩ := sampleCycle_next sampling x
  obtain ⟨second, sampling'⟩ := sampleCycle_next sampling y
  obtain ⟨cur, nxt, rc, acc⟩ := State.sampled_first start x
  obtain ⟨cur', nxt', acc'⟩ := State.sampled_second (nxt.trans cur.symm) rc y
  rw [State.sampled_params, cur] at nxt'
  rw [State.sensor, State.sampled_params, cur] at acc'
  have advanced : ((s.sampled x).sampled y).nxt ≠ ((s.sampled x).sampled y).cur := by
    rw [nxt', cur', cur]
    exact (succ_cycle wellFormed s.nxt).1
  refine ⟨_, (execAll_append _ _ _ _ first).trans second, ⟨sampling', by simp, nxt', .inl advanced⟩, advanced, ?_,
    fun notHead j other => ?_⟩
  · exact (acc' _).trans (if_pos rfl)
  · rw [acc', if_neg other, acc notHead]

/-- The first sample after the ring has returned to HEAD publishes ACC (R100). -/
theorem publishCycle_next {p : Params} {s : State} (h : s.Loads p p.head) (advanced : s.nxt ≠ s.cur) (z : BitVec 12) :
    ∃ t, execAll (sampleCycle z) s = .next t ∧ t.lp = s.acc ∧ t.cur = p.head ∧ t.nxt = p.head ∧ t.rc = 1 := by
  obtain ⟨sampling, rfl, head, -⟩ := h
  obtain ⟨run, -⟩ := sampleCycle_next sampling z
  have published : s.sampled z = _ := State.runSequencer_adopts (s := s.flagSample z) rfl advanced
  refine ⟨_, run, ?_⟩
  rw [published]
  exact ⟨if_pos head, head, head, rfl⟩

/-- LBIT names the three bits of ACC once each (R26). -/
theorem lbit_ne {p : Params} (wellFormed : p.WellFormed) {i j : SensorId} (distinct : i ≠ j) :
    p.sensors[i].lbit.val ≠ p.sensors[j].lbit.val := by
  have permutes : p.lbitPermutes = true := by
    simp only [Bool.and_eq_true] at wellFormed
    obtain ⟨⟨⟨-, permutes⟩, -⟩, -⟩ := wellFormed
    exact permutes
  simp only [Params.lbitPermutes, Bool.and_eq_true, bne_iff_ne, ne_eq] at permutes
  obtain ⟨⟨ne01, ne02⟩, ne12⟩ := permutes
  refine Fin.val_ne_iff.mpr ?_
  match i, j with
  | 0, 0 | 1, 1 | 2, 2 => exact absurd rfl distinct
  | 0, 1 => exact ne01
  | 0, 2 => exact ne02
  | 1, 2 => exact ne12
  | 1, 0 => exact Ne.symm ne01
  | 2, 0 => exact Ne.symm ne02
  | 2, 1 => exact Ne.symm ne12

/-- Settles O39: it holds; each sensor's second sample is measured at its own bit, which the sensors after it keep, and
the adoption of HEAD publishes the three. -/
theorem roundPublishesTheSecondSampleOfEachSensor : Obligations.RoundPublishesTheSecondSampleOfEachSensor := by
  intro s x0 y0 x1 y1 x2 y2 z wellFormed awake quiet enabled busy head start
  obtain ⟨ne10, cycle⟩ := succ_cycle wellFormed s.params.head
  obtain ⟨ne21, -⟩ := succ_cycle wellFormed (s.params.succ s.params.head)
  have ne20 : s.params.succ (s.params.succ s.params.head) ≠ s.params.head := fun back =>
    ne10 ((congrArg s.params.succ back).symm.trans cycle)
  have start₀ : s.AtSensorStart := by
    obtain ⟨cur, first⟩ | advanced := start
    · exact .inr ⟨head.trans cur.symm, first⟩
    · exact .inl (head ▸ advanced.symm)
  obtain ⟨a, run₀, loads₁, -, own₀, -⟩ :=
    sensorCycle_next wellFormed ⟨⟨awake, quiet, enabled, busy⟩, rfl, head, start₀⟩ x0 y0
  obtain ⟨b, run₁, loads₂, -, own₁, others₁⟩ := sensorCycle_next wellFormed loads₁ x1 y1
  obtain ⟨c, run₂, loads₃, advanced, own₂, others₂⟩ := sensorCycle_next wellFormed loads₂ x2 y2
  rw [cycle] at loads₃
  obtain ⟨t, run₃, published, settled⟩ := publishCycle_next loads₃ advanced z
  have run : execAll ((sampleCycle x0 ++ sampleCycle y0) ++ ((sampleCycle x1 ++ sampleCycle y1) ++
      ((sampleCycle x2 ++ sampleCycle y2) ++ sampleCycle z))) s = .next t := by
    rw [execAll_append _ _ _ _ run₀, execAll_append _ _ _ _ run₁, execAll_append _ _ _ _ run₂, run₃]
  refine ⟨t, ?_, ?_, ?_, published ▸ own₂, settled⟩
  · simpa only [List.append_assoc] using run
  · rw [published, others₂ ne20 _ (lbit_ne wellFormed ne20.symm), others₁ ne10 _ (lbit_ne wellFormed ne10.symm), own₀]
  · rw [published, others₂ ne20 _ (lbit_ne wellFormed ne21.symm), own₁]

end Sys2Proof.Machine
end
